-- ==== Sys2Proof/Word.lean ====
section
/-! DEFINITION. The word types: a byte and a 16-bit word or address (00_scope.md R15, 20_memory.md R70). -/

namespace Sys2Proof

/-- `u8` of 00_scope.md R15: an 8-bit register or memory byte. -/
abbrev Byte := BitVec 8

/-- `u16` of 00_scope.md R15: a register pair, `sp`, `pc` or an address. -/
abbrev Word := BitVec 16

end Sys2Proof
end

