-- ==== Sys2Proof/Config.lean ====
section
/-! DEFINITION. The values the spec leaves OPEN, as constants with no body: nothing can be proved of them but that they are
there, so a claim holds for every choice of them. -/

namespace Sys2Proof

/-- `IO_RESET` of 00_scope.md R11: byte `i` of the fixed 256-byte I/O reset vector, of which the spec gives no byte
(92 D16). DESIGN CHOICE (log 2): uninterpreted. Safe. -/
opaque Config.ioReset : Nat → Byte

/-- `LY_SENTINEL` of 00_scope.md R10, the value every read of FF44 gives (92 D14). DESIGN CHOICE (log 3): uninterpreted.
Safe. -/
opaque Config.lySentinel : Byte

/-- `DIV_DRAW` of 00_scope.md R13: the value of the `k`-th free read, a fresh draw under no law (20_memory.md R82).
DESIGN CHOICE (log 4): uninterpreted. Safe. -/
opaque Config.divDraw : Nat → Byte

/-- `JOYPAD` of 00_scope.md R12 when an input source is wired: the host's answer to the `k`-th free read, for the buffered
selector. The host may change its answer between reads (20_memory.md R104). DESIGN CHOICE (log 4): uninterpreted. Safe. -/
opaque Config.joypad : Nat → Byte → Byte

end Sys2Proof
end

