-- ==== Sys2Proof/WellFormed.lean ====
section
/-! DEFINITION. Which terms of `Instr` stand for the words of an instruction. Every operand field is as wide as its type, so
the one ill-formed term is the bare prefix row. -/

namespace Sys2Proof

/-- The row PREFIX CB standing alone. All 256 sub-opcodes are instructions with rows of their own (30_encoding.md R133,
R134), so the words `CB n` decode to those rows and never to this one. DEDUCED (log 9). Safe. -/
def Instr.isBarePrefix : Instr → Bool
  | .prefixCb _ => true
  | _ => false

/-- The instruction's words decode to the instruction itself. -/
def Instr.wellFormed (i : Instr) : Bool :=
  !i.isBarePrefix

end Sys2Proof
end

