-- ==== Sys2Proof/Decode.lean ====
section
/-! DEFINITION. Bytes to instructions (30_encoding.md): the two decode tables of R126 and R134, the total decoder, the
encoder written from the same tables, and the operand-field codes of R123–R125. -/

namespace Sys2Proof

/-! ### Byte order and extension (R100, R16) -/

/-- `{hi, lo}`: a word from its low and high byte. -/
def wordOfBytes (lo hi : Byte) : Word := hi ++ lo

/-- `v[7:0]`. -/
def loByte (v : Word) : Byte := v.extractLsb' 0 8

/-- `v[15:8]`. -/
def hiByte (v : Word) : Byte := v.extractLsb' 8 8

/-- `sext_16(e)` of 00_scope.md R16. -/
def signExtend16 (e : Byte) : Word := e.signExtend 16

/-! ### Field codes (R123–R125, R134) -/

/-- The operand of an 8-bit register field (R124). -/
def operand8OfCode (code : Nat) : Operand8 :=
  match code with
  | 0 => .b
  | 1 => .c
  | 2 => .d
  | 3 => .e
  | 4 => .h
  | 5 => .l
  | 6 => .indHl
  | _ => .a

/-- The 8-bit register field of an operand (R124). -/
def Operand8.code : Operand8 → Byte
  | .b => 0
  | .c => 1
  | .d => 2
  | .e => 3
  | .h => 4
  | .l => 5
  | .indHl => 6
  | .a => 7

/-- The operation of a CB sub-opcode with x = 0, from its field y (R134). -/
def shiftOpOfCode (y : Nat) : ShiftOp :=
  match y with
  | 0 => .rlc
  | 1 => .rrc
  | 2 => .rl
  | 3 => .rr
  | 4 => .sla
  | 5 => .sra
  | 6 => .swap
  | _ => .srl

/-- The pair field `rr = p` (R124). -/
def Pair.code : Pair → Byte
  | .bc => 0
  | .de => 1
  | .hl => 2
  | .sp => 3

/-- The pair field `rr2 = p` (R124). -/
def StackPair.code : StackPair → Byte
  | .bc => 0
  | .de => 1
  | .hl => 2
  | .af => 3

/-- The condition field (R125). -/
def Cond.code : Cond → Byte
  | .nz => 0
  | .z => 1
  | .nc => 2
  | .c => 3

/-- The field y of an accumulator operation, opcodes 0x80–0xBF (R126). -/
def AluOp.code : AluOp → Byte
  | .add => 0
  | .adc => 1
  | .sub => 2
  | .sbc => 3
  | .and => 4
  | .xor => 5
  | .or => 6
  | .cp => 7

/-- The field y of a CB operation with x = 0 (R134). -/
def ShiftOp.code : ShiftOp → Byte
  | .rlc => 0
  | .rrc => 1
  | .rl => 2
  | .rr => 3
  | .sla => 4
  | .sra => 5
  | .swap => 6
  | .srl => 7

/-! ### The decode tables -/

/-- One entry of the opcode ROM (R121): the handler kind carries the operand width, "{zero-operand, byte-operand,
word-operand}". -/
inductive OpcodeEntry where
  | implied (i : Instr)
  | byte (mk : Byte → Instr)
  | word (mk : Word → Instr)

/-- The operand width in bytes (R120, R121). -/
def OpcodeEntry.width : OpcodeEntry → Nat
  | .implied _ => 0
  | .byte _ => 1
  | .word _ => 2

/-- The CB map of R134, row 0x0x. -/
def cbRow0 : List Instr := [
  .rlcB, .rlcC, .rlcD, .rlcE,
  .rlcH, .rlcL, .rlcIndHl, .rlcA,
  .rrcB, .rrcC, .rrcD, .rrcE,
  .rrcH, .rrcL, .rrcIndHl, .rrcA]

/-- The CB map of R134, row 0x1x. -/
def cbRow1 : List Instr := [
  .rlB, .rlC, .rlD, .rlE,
  .rlH, .rlL, .rlIndHl, .rlA,
  .rrB, .rrC, .rrD, .rrE,
  .rrH, .rrL, .rrIndHl, .rrA]

/-- The CB map of R134, row 0x2x. -/
def cbRow2 : List Instr := [
  .slaB, .slaC, .slaD, .slaE,
  .slaH, .slaL, .slaIndHl, .slaA,
  .sraB, .sraC, .sraD, .sraE,
  .sraH, .sraL, .sraIndHl, .sraA]

/-- The CB map of R134, row 0x3x. -/
def cbRow3 : List Instr := [
  .swapB, .swapC, .swapD, .swapE,
  .swapH, .swapL, .swapIndHl, .swapA,
  .srlB, .srlC, .srlD, .srlE,
  .srlH, .srlL, .srlIndHl, .srlA]

/-- The CB map of R134, row 0x4x. -/
def cbRow4 : List Instr := [
  .bit0B, .bit0C, .bit0D, .bit0E,
  .bit0H, .bit0L, .bit0IndHl, .bit0A,
  .bit1B, .bit1C, .bit1D, .bit1E,
  .bit1H, .bit1L, .bit1IndHl, .bit1A]

/-- The CB map of R134, row 0x5x. -/
def cbRow5 : List Instr := [
  .bit2B, .bit2C, .bit2D, .bit2E,
  .bit2H, .bit2L, .bit2IndHl, .bit2A,
  .bit3B, .bit3C, .bit3D, .bit3E,
  .bit3H, .bit3L, .bit3IndHl, .bit3A]

/-- The CB map of R134, row 0x6x. -/
def cbRow6 : List Instr := [
  .bit4B, .bit4C, .bit4D, .bit4E,
  .bit4H, .bit4L, .bit4IndHl, .bit4A,
  .bit5B, .bit5C, .bit5D, .bit5E,
  .bit5H, .bit5L, .bit5IndHl, .bit5A]

/-- The CB map of R134, row 0x7x. -/
def cbRow7 : List Instr := [
  .bit6B, .bit6C, .bit6D, .bit6E,
  .bit6H, .bit6L, .bit6IndHl, .bit6A,
  .bit7B, .bit7C, .bit7D, .bit7E,
  .bit7H, .bit7L, .bit7IndHl, .bit7A]

/-- The CB map of R134, row 0x8x. -/
def cbRow8 : List Instr := [
  .res0B, .res0C, .res0D, .res0E,
  .res0H, .res0L, .res0IndHl, .res0A,
  .res1B, .res1C, .res1D, .res1E,
  .res1H, .res1L, .res1IndHl, .res1A]

/-- The CB map of R134, row 0x9x. -/
def cbRow9 : List Instr := [
  .res2B, .res2C, .res2D, .res2E,
  .res2H, .res2L, .res2IndHl, .res2A,
  .res3B, .res3C, .res3D, .res3E,
  .res3H, .res3L, .res3IndHl, .res3A]

/-- The CB map of R134, row 0xAx. -/
def cbRowA : List Instr := [
  .res4B, .res4C, .res4D, .res4E,
  .res4H, .res4L, .res4IndHl, .res4A,
  .res5B, .res5C, .res5D, .res5E,
  .res5H, .res5L, .res5IndHl, .res5A]

/-- The CB map of R134, row 0xBx. -/
def cbRowB : List Instr := [
  .res6B, .res6C, .res6D, .res6E,
  .res6H, .res6L, .res6IndHl, .res6A,
  .res7B, .res7C, .res7D, .res7E,
  .res7H, .res7L, .res7IndHl, .res7A]

/-- The CB map of R134, row 0xCx. -/
def cbRowC : List Instr := [
  .set0B, .set0C, .set0D, .set0E,
  .set0H, .set0L, .set0IndHl, .set0A,
  .set1B, .set1C, .set1D, .set1E,
  .set1H, .set1L, .set1IndHl, .set1A]

/-- The CB map of R134, row 0xDx. -/
def cbRowD : List Instr := [
  .set2B, .set2C, .set2D, .set2E,
  .set2H, .set2L, .set2IndHl, .set2A,
  .set3B, .set3C, .set3D, .set3E,
  .set3H, .set3L, .set3IndHl, .set3A]

/-- The CB map of R134, row 0xEx. -/
def cbRowE : List Instr := [
  .set4B, .set4C, .set4D, .set4E,
  .set4H, .set4L, .set4IndHl, .set4A,
  .set5B, .set5C, .set5D, .set5E,
  .set5H, .set5L, .set5IndHl, .set5A]

/-- The CB map of R134, row 0xFx. -/
def cbRowF : List Instr := [
  .set6B, .set6C, .set6D, .set6E,
  .set6H, .set6L, .set6IndHl, .set6A,
  .set7B, .set7C, .set7D, .set7E,
  .set7H, .set7L, .set7IndHl, .set7A]

/-- The CB map of R134: row = high nibble of the sub-opcode, column = low nibble. -/
def cbTable : List (List Instr) :=
  [cbRow0, cbRow1, cbRow2, cbRow3, cbRow4, cbRow5, cbRow6, cbRow7,
   cbRow8, cbRow9, cbRowA, cbRowB, cbRowC, cbRowD, cbRowE, cbRowF]

/-- The operation a CB sub-opcode selects. The table has 16 rows of 16, so the defaults are never used. -/
def cbInstr (n : Byte) : Instr :=
  (cbTable.getD (n.toNat / 16) []).getD (n.toNat % 16) (.prefixCb n)

/-- The primary opcode map of R126, row 0x0x. -/
def primaryRow0 : List OpcodeEntry := [
  .implied .nop, .word .ldBcNn, .implied .ldIndBcA, .implied .incBc,
  .implied .incB, .implied .decB, .byte .ldBN, .implied .rlca,
  .word .ldIndNnSp, .implied .addHlBc, .implied .ldAIndBc, .implied .decBc,
  .implied .incC, .implied .decC, .byte .ldCN, .implied .rrca]

/-- The primary opcode map of R126, row 0x1x. -/
def primaryRow1 : List OpcodeEntry := [
  .byte .stop, .word .ldDeNn, .implied .ldIndDeA, .implied .incDe,
  .implied .incD, .implied .decD, .byte .ldDN, .implied .rla,
  .byte .jrE, .implied .addHlDe, .implied .ldAIndDe, .implied .decDe,
  .implied .incE, .implied .decE, .byte .ldEN, .implied .rra]

/-- The primary opcode map of R126, row 0x2x. -/
def primaryRow2 : List OpcodeEntry := [
  .byte .jrNzE, .word .ldHlNn, .implied .ldIndHlIncA, .implied .incHl,
  .implied .incH, .implied .decH, .byte .ldHN, .implied .daa,
  .byte .jrZE, .implied .addHlHl, .implied .ldAIndHlInc, .implied .decHl,
  .implied .incL, .implied .decL, .byte .ldLN, .implied .cpl]

/-- The primary opcode map of R126, row 0x3x. -/
def primaryRow3 : List OpcodeEntry := [
  .byte .jrNcE, .word .ldSpNn, .implied .ldIndHlDecA, .implied .incSp,
  .implied .incIndHl, .implied .decIndHl, .byte .ldIndHlN, .implied .scf,
  .byte .jrCE, .implied .addHlSp, .implied .ldAIndHlDec, .implied .decSp,
  .implied .incA, .implied .decA, .byte .ldAN, .implied .ccf]

/-- The primary opcode map of R126, row 0x4x. -/
def primaryRow4 : List OpcodeEntry := [
  .implied .ldBB, .implied .ldBC, .implied .ldBD, .implied .ldBE,
  .implied .ldBH, .implied .ldBL, .implied .ldBIndHl, .implied .ldBA,
  .implied .ldCB, .implied .ldCC, .implied .ldCD, .implied .ldCE,
  .implied .ldCH, .implied .ldCL, .implied .ldCIndHl, .implied .ldCA]

/-- The primary opcode map of R126, row 0x5x. -/
def primaryRow5 : List OpcodeEntry := [
  .implied .ldDB, .implied .ldDC, .implied .ldDD, .implied .ldDE,
  .implied .ldDH, .implied .ldDL, .implied .ldDIndHl, .implied .ldDA,
  .implied .ldEB, .implied .ldEC, .implied .ldED, .implied .ldEE,
  .implied .ldEH, .implied .ldEL, .implied .ldEIndHl, .implied .ldEA]

/-- The primary opcode map of R126, row 0x6x. -/
def primaryRow6 : List OpcodeEntry := [
  .implied .ldHB, .implied .ldHC, .implied .ldHD, .implied .ldHE,
  .implied .ldHH, .implied .ldHL, .implied .ldHIndHl, .implied .ldHA,
  .implied .ldLB, .implied .ldLC, .implied .ldLD, .implied .ldLE,
  .implied .ldLH, .implied .ldLL, .implied .ldLIndHl, .implied .ldLA]

/-- The primary opcode map of R126, row 0x7x. -/
def primaryRow7 : List OpcodeEntry := [
  .implied .ldIndHlB, .implied .ldIndHlC, .implied .ldIndHlD, .implied .ldIndHlE,
  .implied .ldIndHlH, .implied .ldIndHlL, .implied .halt, .implied .ldIndHlA,
  .implied .ldAB, .implied .ldAC, .implied .ldAD, .implied .ldAE,
  .implied .ldAH, .implied .ldAL, .implied .ldAIndHl, .implied .ldAA]

/-- The primary opcode map of R126, row 0x8x. -/
def primaryRow8 : List OpcodeEntry := [
  .implied .addAB, .implied .addAC, .implied .addAD, .implied .addAE,
  .implied .addAH, .implied .addAL, .implied .addAIndHl, .implied .addAA,
  .implied .adcAB, .implied .adcAC, .implied .adcAD, .implied .adcAE,
  .implied .adcAH, .implied .adcAL, .implied .adcAIndHl, .implied .adcAA]

/-- The primary opcode map of R126, row 0x9x. -/
def primaryRow9 : List OpcodeEntry := [
  .implied .subB, .implied .subC, .implied .subD, .implied .subE,
  .implied .subH, .implied .subL, .implied .subIndHl, .implied .subA,
  .implied .sbcAB, .implied .sbcAC, .implied .sbcAD, .implied .sbcAE,
  .implied .sbcAH, .implied .sbcAL, .implied .sbcAIndHl, .implied .sbcAA]

/-- The primary opcode map of R126, row 0xAx. -/
def primaryRowA : List OpcodeEntry := [
  .implied .andB, .implied .andC, .implied .andD, .implied .andE,
  .implied .andH, .implied .andL, .implied .andIndHl, .implied .andA,
  .implied .xorB, .implied .xorC, .implied .xorD, .implied .xorE,
  .implied .xorH, .implied .xorL, .implied .xorIndHl, .implied .xorA]

/-- The primary opcode map of R126, row 0xBx. -/
def primaryRowB : List OpcodeEntry := [
  .implied .orB, .implied .orC, .implied .orD, .implied .orE,
  .implied .orH, .implied .orL, .implied .orIndHl, .implied .orA,
  .implied .cpB, .implied .cpC, .implied .cpD, .implied .cpE,
  .implied .cpH, .implied .cpL, .implied .cpIndHl, .implied .cpA]

/-- The primary opcode map of R126, row 0xCx. -/
def primaryRowC : List OpcodeEntry := [
  .implied .retNz, .implied .popBc, .word .jpNzNn, .word .jpNn,
  .word .callNzNn, .implied .pushBc, .byte .addAN, .implied .rst00,
  .implied .retZ, .implied .ret, .word .jpZNn, .byte cbInstr,
  .word .callZNn, .word .callNn, .byte .adcAN, .implied .rst08]

/-- The primary opcode map of R126, row 0xDx. -/
def primaryRowD : List OpcodeEntry := [
  .implied .retNc, .implied .popDe, .word .jpNcNn, .implied .illegalD3,
  .word .callNcNn, .implied .pushDe, .byte .subN, .implied .rst10,
  .implied .retC, .implied .reti, .word .jpCNn, .implied .illegalDB,
  .word .callCNn, .implied .illegalDD, .byte .sbcAN, .implied .rst18]

/-- The primary opcode map of R126, row 0xEx. -/
def primaryRowE : List OpcodeEntry := [
  .byte .ldhIndNA, .implied .popHl, .implied .ldIndCA, .implied .illegalE3,
  .implied .illegalE4, .implied .pushHl, .byte .andN, .implied .rst20,
  .byte .addSpE, .implied .jpHl, .word .ldIndNnA, .implied .illegalEB,
  .implied .illegalEC, .implied .illegalED, .byte .xorN, .implied .rst28]

/-- The primary opcode map of R126, row 0xFx. -/
def primaryRowF : List OpcodeEntry := [
  .byte .ldhAIndN, .implied .popAf, .implied .ldAIndC, .implied .di,
  .implied .illegalF4, .implied .pushAf, .byte .orN, .implied .rst30,
  .byte .ldHlSpE, .implied .ldSpHl, .word .ldAIndNn, .implied .ei,
  .implied .illegalFC, .implied .illegalFD, .byte .cpN, .implied .rst38]

/-- The 256 entries of the opcode ROM (R121): row = high nibble, column = low nibble, as in R126. -/
def primaryTable : List (List OpcodeEntry) :=
  [primaryRow0, primaryRow1, primaryRow2, primaryRow3, primaryRow4, primaryRow5, primaryRow6, primaryRow7,
   primaryRow8, primaryRow9, primaryRowA, primaryRowB, primaryRowC, primaryRowD, primaryRowE, primaryRowF]

/-- The entry of an opcode, "indexed directly by the fetched byte". The table has 16 rows of 16, so the defaults are never
used. -/
def opcodeEntry (op : Byte) : OpcodeEntry :=
  (primaryTable.getD (op.toNat / 16) []).getD (op.toNat % 16) (.byte .prefixCb)

/-- `width(op)` of R120, R121. -/
def operandWidth (op : Byte) : Nat :=
  (opcodeEntry op).width

/-- The eleven opcodes with no instruction (R132). -/
def illegalOpcodes : List Byte :=
  [0xD3, 0xDB, 0xDD, 0xE3, 0xE4, 0xEB, 0xEC, 0xED, 0xF4, 0xFC, 0xFD]

/-! ### The decoder -/

/-- Why a byte list holds no whole instruction; no byte value is rejected (R138). -/
inductive DecodeError where
  | noOpcode
  | truncatedOperand (op : Byte)
  deriving DecidableEq, Repr

/-- The instruction at the head of a byte list, and the bytes after it (R120–R122, R134). -/
def decode : List Byte → Except DecodeError (Instr × List Byte)
  | [] => .error .noOpcode
  | op :: rest =>
    match opcodeEntry op, rest with
    | .implied i, r => .ok (i, r)
    | .byte mk, n :: r => .ok (mk n, r)
    | .word mk, lo :: hi :: r => .ok (mk (wordOfBytes lo hi), r)
    | _, _ => .error (.truncatedOperand op)

/-- Byte `k` of a word numbered as the opcode table numbers it: the first byte is the least significant. -/
def tableByte (w k : Nat) : Byte :=
  BitVec.ofNat 8 (w / 256 ^ k)

/-- The three bytes, the longest instruction, of a table word whose bits above `nbits` are 0. -/
def tableBytes (nbits w : Nat) : List Byte :=
  [tableByte (w % 2 ^ nbits) 0, tableByte (w % 2 ^ nbits) 1, tableByte (w % 2 ^ nbits) 2]

/-- The instruction the decoder reads from a word of the opcode table. -/
def decodeTableWord (nbits w : Nat) : Option Instr :=
  match decode (tableBytes nbits w) with
  | .ok (i, _) => some i
  | .error _ => none

/-! ### The encoder -/

/-- The bytes of an instruction, from the opcodes of R126 and the sub-opcodes of R134. -/
def encode : Instr → List Byte
  | .nop => [0x00]
  | .ldBcNn nn => [0x01, loByte nn, hiByte nn]
  | .ldIndBcA => [0x02]
  | .incBc => [0x03]
  | .incB => [0x04]
  | .decB => [0x05]
  | .ldBN n => [0x06, n]
  | .rlca => [0x07]
  | .ldIndNnSp nn => [0x08, loByte nn, hiByte nn]
  | .addHlBc => [0x09]
  | .ldAIndBc => [0x0A]
  | .decBc => [0x0B]
  | .incC => [0x0C]
  | .decC => [0x0D]
  | .ldCN n => [0x0E, n]
  | .rrca => [0x0F]
  | .stop n => [0x10, n]
  | .ldDeNn nn => [0x11, loByte nn, hiByte nn]
  | .ldIndDeA => [0x12]
  | .incDe => [0x13]
  | .incD => [0x14]
  | .decD => [0x15]
  | .ldDN n => [0x16, n]
  | .rla => [0x17]
  | .jrE e => [0x18, e]
  | .addHlDe => [0x19]
  | .ldAIndDe => [0x1A]
  | .decDe => [0x1B]
  | .incE => [0x1C]
  | .decE => [0x1D]
  | .ldEN n => [0x1E, n]
  | .rra => [0x1F]
  | .jrNzE e => [0x20, e]
  | .ldHlNn nn => [0x21, loByte nn, hiByte nn]
  | .ldIndHlIncA => [0x22]
  | .incHl => [0x23]
  | .incH => [0x24]
  | .decH => [0x25]
  | .ldHN n => [0x26, n]
  | .daa => [0x27]
  | .jrZE e => [0x28, e]
  | .addHlHl => [0x29]
  | .ldAIndHlInc => [0x2A]
  | .decHl => [0x2B]
  | .incL => [0x2C]
  | .decL => [0x2D]
  | .ldLN n => [0x2E, n]
  | .cpl => [0x2F]
  | .jrNcE e => [0x30, e]
  | .ldSpNn nn => [0x31, loByte nn, hiByte nn]
  | .ldIndHlDecA => [0x32]
  | .incSp => [0x33]
  | .incIndHl => [0x34]
  | .decIndHl => [0x35]
  | .ldIndHlN n => [0x36, n]
  | .scf => [0x37]
  | .jrCE e => [0x38, e]
  | .addHlSp => [0x39]
  | .ldAIndHlDec => [0x3A]
  | .decSp => [0x3B]
  | .incA => [0x3C]
  | .decA => [0x3D]
  | .ldAN n => [0x3E, n]
  | .ccf => [0x3F]
  | .ldBB => [0x40]
  | .ldBC => [0x41]
  | .ldBD => [0x42]
  | .ldBE => [0x43]
  | .ldBH => [0x44]
  | .ldBL => [0x45]
  | .ldBIndHl => [0x46]
  | .ldBA => [0x47]
  | .ldCB => [0x48]
  | .ldCC => [0x49]
  | .ldCD => [0x4A]
  | .ldCE => [0x4B]
  | .ldCH => [0x4C]
  | .ldCL => [0x4D]
  | .ldCIndHl => [0x4E]
  | .ldCA => [0x4F]
  | .ldDB => [0x50]
  | .ldDC => [0x51]
  | .ldDD => [0x52]
  | .ldDE => [0x53]
  | .ldDH => [0x54]
  | .ldDL => [0x55]
  | .ldDIndHl => [0x56]
  | .ldDA => [0x57]
  | .ldEB => [0x58]
  | .ldEC => [0x59]
  | .ldED => [0x5A]
  | .ldEE => [0x5B]
  | .ldEH => [0x5C]
  | .ldEL => [0x5D]
  | .ldEIndHl => [0x5E]
  | .ldEA => [0x5F]
  | .ldHB => [0x60]
  | .ldHC => [0x61]
  | .ldHD => [0x62]
  | .ldHE => [0x63]
  | .ldHH => [0x64]
  | .ldHL => [0x65]
  | .ldHIndHl => [0x66]
  | .ldHA => [0x67]
  | .ldLB => [0x68]
  | .ldLC => [0x69]
  | .ldLD => [0x6A]
  | .ldLE => [0x6B]
  | .ldLH => [0x6C]
  | .ldLL => [0x6D]
  | .ldLIndHl => [0x6E]
  | .ldLA => [0x6F]
  | .ldIndHlB => [0x70]
  | .ldIndHlC => [0x71]
  | .ldIndHlD => [0x72]
  | .ldIndHlE => [0x73]
  | .ldIndHlH => [0x74]
  | .ldIndHlL => [0x75]
  | .halt => [0x76]
  | .ldIndHlA => [0x77]
  | .ldAB => [0x78]
  | .ldAC => [0x79]
  | .ldAD => [0x7A]
  | .ldAE => [0x7B]
  | .ldAH => [0x7C]
  | .ldAL => [0x7D]
  | .ldAIndHl => [0x7E]
  | .ldAA => [0x7F]
  | .addAB => [0x80]
  | .addAC => [0x81]
  | .addAD => [0x82]
  | .addAE => [0x83]
  | .addAH => [0x84]
  | .addAL => [0x85]
  | .addAIndHl => [0x86]
  | .addAA => [0x87]
  | .adcAB => [0x88]
  | .adcAC => [0x89]
  | .adcAD => [0x8A]
  | .adcAE => [0x8B]
  | .adcAH => [0x8C]
  | .adcAL => [0x8D]
  | .adcAIndHl => [0x8E]
  | .adcAA => [0x8F]
  | .subB => [0x90]
  | .subC => [0x91]
  | .subD => [0x92]
  | .subE => [0x93]
  | .subH => [0x94]
  | .subL => [0x95]
  | .subIndHl => [0x96]
  | .subA => [0x97]
  | .sbcAB => [0x98]
  | .sbcAC => [0x99]
  | .sbcAD => [0x9A]
  | .sbcAE => [0x9B]
  | .sbcAH => [0x9C]
  | .sbcAL => [0x9D]
  | .sbcAIndHl => [0x9E]
  | .sbcAA => [0x9F]
  | .andB => [0xA0]
  | .andC => [0xA1]
  | .andD => [0xA2]
  | .andE => [0xA3]
  | .andH => [0xA4]
  | .andL => [0xA5]
  | .andIndHl => [0xA6]
  | .andA => [0xA7]
  | .xorB => [0xA8]
  | .xorC => [0xA9]
  | .xorD => [0xAA]
  | .xorE => [0xAB]
  | .xorH => [0xAC]
  | .xorL => [0xAD]
  | .xorIndHl => [0xAE]
  | .xorA => [0xAF]
  | .orB => [0xB0]
  | .orC => [0xB1]
  | .orD => [0xB2]
  | .orE => [0xB3]
  | .orH => [0xB4]
  | .orL => [0xB5]
  | .orIndHl => [0xB6]
  | .orA => [0xB7]
  | .cpB => [0xB8]
  | .cpC => [0xB9]
  | .cpD => [0xBA]
  | .cpE => [0xBB]
  | .cpH => [0xBC]
  | .cpL => [0xBD]
  | .cpIndHl => [0xBE]
  | .cpA => [0xBF]
  | .retNz => [0xC0]
  | .popBc => [0xC1]
  | .jpNzNn nn => [0xC2, loByte nn, hiByte nn]
  | .jpNn nn => [0xC3, loByte nn, hiByte nn]
  | .callNzNn nn => [0xC4, loByte nn, hiByte nn]
  | .pushBc => [0xC5]
  | .addAN n => [0xC6, n]
  | .rst00 => [0xC7]
  | .retZ => [0xC8]
  | .ret => [0xC9]
  | .jpZNn nn => [0xCA, loByte nn, hiByte nn]
  | .prefixCb n => [0xCB, n]
  | .callZNn nn => [0xCC, loByte nn, hiByte nn]
  | .callNn nn => [0xCD, loByte nn, hiByte nn]
  | .adcAN n => [0xCE, n]
  | .rst08 => [0xCF]
  | .retNc => [0xD0]
  | .popDe => [0xD1]
  | .jpNcNn nn => [0xD2, loByte nn, hiByte nn]
  | .illegalD3 => [0xD3]
  | .callNcNn nn => [0xD4, loByte nn, hiByte nn]
  | .pushDe => [0xD5]
  | .subN n => [0xD6, n]
  | .rst10 => [0xD7]
  | .retC => [0xD8]
  | .reti => [0xD9]
  | .jpCNn nn => [0xDA, loByte nn, hiByte nn]
  | .illegalDB => [0xDB]
  | .callCNn nn => [0xDC, loByte nn, hiByte nn]
  | .illegalDD => [0xDD]
  | .sbcAN n => [0xDE, n]
  | .rst18 => [0xDF]
  | .ldhIndNA n => [0xE0, n]
  | .popHl => [0xE1]
  | .ldIndCA => [0xE2]
  | .illegalE3 => [0xE3]
  | .illegalE4 => [0xE4]
  | .pushHl => [0xE5]
  | .andN n => [0xE6, n]
  | .rst20 => [0xE7]
  | .addSpE e => [0xE8, e]
  | .jpHl => [0xE9]
  | .ldIndNnA nn => [0xEA, loByte nn, hiByte nn]
  | .illegalEB => [0xEB]
  | .illegalEC => [0xEC]
  | .illegalED => [0xED]
  | .xorN n => [0xEE, n]
  | .rst28 => [0xEF]
  | .ldhAIndN n => [0xF0, n]
  | .popAf => [0xF1]
  | .ldAIndC => [0xF2]
  | .di => [0xF3]
  | .illegalF4 => [0xF4]
  | .pushAf => [0xF5]
  | .orN n => [0xF6, n]
  | .rst30 => [0xF7]
  | .ldHlSpE e => [0xF8, e]
  | .ldSpHl => [0xF9]
  | .ldAIndNn nn => [0xFA, loByte nn, hiByte nn]
  | .ei => [0xFB]
  | .illegalFC => [0xFC]
  | .illegalFD => [0xFD]
  | .cpN n => [0xFE, n]
  | .rst38 => [0xFF]
  | .rlcB => [0xCB, 0x00]
  | .rlcC => [0xCB, 0x01]
  | .rlcD => [0xCB, 0x02]
  | .rlcE => [0xCB, 0x03]
  | .rlcH => [0xCB, 0x04]
  | .rlcL => [0xCB, 0x05]
  | .rlcIndHl => [0xCB, 0x06]
  | .rlcA => [0xCB, 0x07]
  | .rrcB => [0xCB, 0x08]
  | .rrcC => [0xCB, 0x09]
  | .rrcD => [0xCB, 0x0A]
  | .rrcE => [0xCB, 0x0B]
  | .rrcH => [0xCB, 0x0C]
  | .rrcL => [0xCB, 0x0D]
  | .rrcIndHl => [0xCB, 0x0E]
  | .rrcA => [0xCB, 0x0F]
  | .rlB => [0xCB, 0x10]
  | .rlC => [0xCB, 0x11]
  | .rlD => [0xCB, 0x12]
  | .rlE => [0xCB, 0x13]
  | .rlH => [0xCB, 0x14]
  | .rlL => [0xCB, 0x15]
  | .rlIndHl => [0xCB, 0x16]
  | .rlA => [0xCB, 0x17]
  | .rrB => [0xCB, 0x18]
  | .rrC => [0xCB, 0x19]
  | .rrD => [0xCB, 0x1A]
  | .rrE => [0xCB, 0x1B]
  | .rrH => [0xCB, 0x1C]
  | .rrL => [0xCB, 0x1D]
  | .rrIndHl => [0xCB, 0x1E]
  | .rrA => [0xCB, 0x1F]
  | .slaB => [0xCB, 0x20]
  | .slaC => [0xCB, 0x21]
  | .slaD => [0xCB, 0x22]
  | .slaE => [0xCB, 0x23]
  | .slaH => [0xCB, 0x24]
  | .slaL => [0xCB, 0x25]
  | .slaIndHl => [0xCB, 0x26]
  | .slaA => [0xCB, 0x27]
  | .sraB => [0xCB, 0x28]
  | .sraC => [0xCB, 0x29]
  | .sraD => [0xCB, 0x2A]
  | .sraE => [0xCB, 0x2B]
  | .sraH => [0xCB, 0x2C]
  | .sraL => [0xCB, 0x2D]
  | .sraIndHl => [0xCB, 0x2E]
  | .sraA => [0xCB, 0x2F]
  | .swapB => [0xCB, 0x30]
  | .swapC => [0xCB, 0x31]
  | .swapD => [0xCB, 0x32]
  | .swapE => [0xCB, 0x33]
  | .swapH => [0xCB, 0x34]
  | .swapL => [0xCB, 0x35]
  | .swapIndHl => [0xCB, 0x36]
  | .swapA => [0xCB, 0x37]
  | .srlB => [0xCB, 0x38]
  | .srlC => [0xCB, 0x39]
  | .srlD => [0xCB, 0x3A]
  | .srlE => [0xCB, 0x3B]
  | .srlH => [0xCB, 0x3C]
  | .srlL => [0xCB, 0x3D]
  | .srlIndHl => [0xCB, 0x3E]
  | .srlA => [0xCB, 0x3F]
  | .bit0B => [0xCB, 0x40]
  | .bit0C => [0xCB, 0x41]
  | .bit0D => [0xCB, 0x42]
  | .bit0E => [0xCB, 0x43]
  | .bit0H => [0xCB, 0x44]
  | .bit0L => [0xCB, 0x45]
  | .bit0IndHl => [0xCB, 0x46]
  | .bit0A => [0xCB, 0x47]
  | .bit1B => [0xCB, 0x48]
  | .bit1C => [0xCB, 0x49]
  | .bit1D => [0xCB, 0x4A]
  | .bit1E => [0xCB, 0x4B]
  | .bit1H => [0xCB, 0x4C]
  | .bit1L => [0xCB, 0x4D]
  | .bit1IndHl => [0xCB, 0x4E]
  | .bit1A => [0xCB, 0x4F]
  | .bit2B => [0xCB, 0x50]
  | .bit2C => [0xCB, 0x51]
  | .bit2D => [0xCB, 0x52]
  | .bit2E => [0xCB, 0x53]
  | .bit2H => [0xCB, 0x54]
  | .bit2L => [0xCB, 0x55]
  | .bit2IndHl => [0xCB, 0x56]
  | .bit2A => [0xCB, 0x57]
  | .bit3B => [0xCB, 0x58]
  | .bit3C => [0xCB, 0x59]
  | .bit3D => [0xCB, 0x5A]
  | .bit3E => [0xCB, 0x5B]
  | .bit3H => [0xCB, 0x5C]
  | .bit3L => [0xCB, 0x5D]
  | .bit3IndHl => [0xCB, 0x5E]
  | .bit3A => [0xCB, 0x5F]
  | .bit4B => [0xCB, 0x60]
  | .bit4C => [0xCB, 0x61]
  | .bit4D => [0xCB, 0x62]
  | .bit4E => [0xCB, 0x63]
  | .bit4H => [0xCB, 0x64]
  | .bit4L => [0xCB, 0x65]
  | .bit4IndHl => [0xCB, 0x66]
  | .bit4A => [0xCB, 0x67]
  | .bit5B => [0xCB, 0x68]
  | .bit5C => [0xCB, 0x69]
  | .bit5D => [0xCB, 0x6A]
  | .bit5E => [0xCB, 0x6B]
  | .bit5H => [0xCB, 0x6C]
  | .bit5L => [0xCB, 0x6D]
  | .bit5IndHl => [0xCB, 0x6E]
  | .bit5A => [0xCB, 0x6F]
  | .bit6B => [0xCB, 0x70]
  | .bit6C => [0xCB, 0x71]
  | .bit6D => [0xCB, 0x72]
  | .bit6E => [0xCB, 0x73]
  | .bit6H => [0xCB, 0x74]
  | .bit6L => [0xCB, 0x75]
  | .bit6IndHl => [0xCB, 0x76]
  | .bit6A => [0xCB, 0x77]
  | .bit7B => [0xCB, 0x78]
  | .bit7C => [0xCB, 0x79]
  | .bit7D => [0xCB, 0x7A]
  | .bit7E => [0xCB, 0x7B]
  | .bit7H => [0xCB, 0x7C]
  | .bit7L => [0xCB, 0x7D]
  | .bit7IndHl => [0xCB, 0x7E]
  | .bit7A => [0xCB, 0x7F]
  | .res0B => [0xCB, 0x80]
  | .res0C => [0xCB, 0x81]
  | .res0D => [0xCB, 0x82]
  | .res0E => [0xCB, 0x83]
  | .res0H => [0xCB, 0x84]
  | .res0L => [0xCB, 0x85]
  | .res0IndHl => [0xCB, 0x86]
  | .res0A => [0xCB, 0x87]
  | .res1B => [0xCB, 0x88]
  | .res1C => [0xCB, 0x89]
  | .res1D => [0xCB, 0x8A]
  | .res1E => [0xCB, 0x8B]
  | .res1H => [0xCB, 0x8C]
  | .res1L => [0xCB, 0x8D]
  | .res1IndHl => [0xCB, 0x8E]
  | .res1A => [0xCB, 0x8F]
  | .res2B => [0xCB, 0x90]
  | .res2C => [0xCB, 0x91]
  | .res2D => [0xCB, 0x92]
  | .res2E => [0xCB, 0x93]
  | .res2H => [0xCB, 0x94]
  | .res2L => [0xCB, 0x95]
  | .res2IndHl => [0xCB, 0x96]
  | .res2A => [0xCB, 0x97]
  | .res3B => [0xCB, 0x98]
  | .res3C => [0xCB, 0x99]
  | .res3D => [0xCB, 0x9A]
  | .res3E => [0xCB, 0x9B]
  | .res3H => [0xCB, 0x9C]
  | .res3L => [0xCB, 0x9D]
  | .res3IndHl => [0xCB, 0x9E]
  | .res3A => [0xCB, 0x9F]
  | .res4B => [0xCB, 0xA0]
  | .res4C => [0xCB, 0xA1]
  | .res4D => [0xCB, 0xA2]
  | .res4E => [0xCB, 0xA3]
  | .res4H => [0xCB, 0xA4]
  | .res4L => [0xCB, 0xA5]
  | .res4IndHl => [0xCB, 0xA6]
  | .res4A => [0xCB, 0xA7]
  | .res5B => [0xCB, 0xA8]
  | .res5C => [0xCB, 0xA9]
  | .res5D => [0xCB, 0xAA]
  | .res5E => [0xCB, 0xAB]
  | .res5H => [0xCB, 0xAC]
  | .res5L => [0xCB, 0xAD]
  | .res5IndHl => [0xCB, 0xAE]
  | .res5A => [0xCB, 0xAF]
  | .res6B => [0xCB, 0xB0]
  | .res6C => [0xCB, 0xB1]
  | .res6D => [0xCB, 0xB2]
  | .res6E => [0xCB, 0xB3]
  | .res6H => [0xCB, 0xB4]
  | .res6L => [0xCB, 0xB5]
  | .res6IndHl => [0xCB, 0xB6]
  | .res6A => [0xCB, 0xB7]
  | .res7B => [0xCB, 0xB8]
  | .res7C => [0xCB, 0xB9]
  | .res7D => [0xCB, 0xBA]
  | .res7E => [0xCB, 0xBB]
  | .res7H => [0xCB, 0xBC]
  | .res7L => [0xCB, 0xBD]
  | .res7IndHl => [0xCB, 0xBE]
  | .res7A => [0xCB, 0xBF]
  | .set0B => [0xCB, 0xC0]
  | .set0C => [0xCB, 0xC1]
  | .set0D => [0xCB, 0xC2]
  | .set0E => [0xCB, 0xC3]
  | .set0H => [0xCB, 0xC4]
  | .set0L => [0xCB, 0xC5]
  | .set0IndHl => [0xCB, 0xC6]
  | .set0A => [0xCB, 0xC7]
  | .set1B => [0xCB, 0xC8]
  | .set1C => [0xCB, 0xC9]
  | .set1D => [0xCB, 0xCA]
  | .set1E => [0xCB, 0xCB]
  | .set1H => [0xCB, 0xCC]
  | .set1L => [0xCB, 0xCD]
  | .set1IndHl => [0xCB, 0xCE]
  | .set1A => [0xCB, 0xCF]
  | .set2B => [0xCB, 0xD0]
  | .set2C => [0xCB, 0xD1]
  | .set2D => [0xCB, 0xD2]
  | .set2E => [0xCB, 0xD3]
  | .set2H => [0xCB, 0xD4]
  | .set2L => [0xCB, 0xD5]
  | .set2IndHl => [0xCB, 0xD6]
  | .set2A => [0xCB, 0xD7]
  | .set3B => [0xCB, 0xD8]
  | .set3C => [0xCB, 0xD9]
  | .set3D => [0xCB, 0xDA]
  | .set3E => [0xCB, 0xDB]
  | .set3H => [0xCB, 0xDC]
  | .set3L => [0xCB, 0xDD]
  | .set3IndHl => [0xCB, 0xDE]
  | .set3A => [0xCB, 0xDF]
  | .set4B => [0xCB, 0xE0]
  | .set4C => [0xCB, 0xE1]
  | .set4D => [0xCB, 0xE2]
  | .set4E => [0xCB, 0xE3]
  | .set4H => [0xCB, 0xE4]
  | .set4L => [0xCB, 0xE5]
  | .set4IndHl => [0xCB, 0xE6]
  | .set4A => [0xCB, 0xE7]
  | .set5B => [0xCB, 0xE8]
  | .set5C => [0xCB, 0xE9]
  | .set5D => [0xCB, 0xEA]
  | .set5E => [0xCB, 0xEB]
  | .set5H => [0xCB, 0xEC]
  | .set5L => [0xCB, 0xED]
  | .set5IndHl => [0xCB, 0xEE]
  | .set5A => [0xCB, 0xEF]
  | .set6B => [0xCB, 0xF0]
  | .set6C => [0xCB, 0xF1]
  | .set6D => [0xCB, 0xF2]
  | .set6E => [0xCB, 0xF3]
  | .set6H => [0xCB, 0xF4]
  | .set6L => [0xCB, 0xF5]
  | .set6IndHl => [0xCB, 0xF6]
  | .set6A => [0xCB, 0xF7]
  | .set7B => [0xCB, 0xF8]
  | .set7C => [0xCB, 0xF9]
  | .set7D => [0xCB, 0xFA]
  | .set7E => [0xCB, 0xFB]
  | .set7H => [0xCB, 0xFC]
  | .set7L => [0xCB, 0xFD]
  | .set7IndHl => [0xCB, 0xFE]
  | .set7A => [0xCB, 0xFF]

/-! ### The instruction forms of the rules

Each function names the instruction that a rule's form has for given operands, so that one statement can speak of all of
them. -/

/-- LD r,r', LD r,(HL), LD (HL),r (40_load.md R160, R162, R163). The slot of LD (HL),(HL) is HALT (45_system.md R341). -/
def Instr.loadForm : Operand8 → Operand8 → Instr
  | .b, .b => .ldBB
  | .b, .c => .ldBC
  | .b, .d => .ldBD
  | .b, .e => .ldBE
  | .b, .h => .ldBH
  | .b, .l => .ldBL
  | .b, .indHl => .ldBIndHl
  | .b, .a => .ldBA
  | .c, .b => .ldCB
  | .c, .c => .ldCC
  | .c, .d => .ldCD
  | .c, .e => .ldCE
  | .c, .h => .ldCH
  | .c, .l => .ldCL
  | .c, .indHl => .ldCIndHl
  | .c, .a => .ldCA
  | .d, .b => .ldDB
  | .d, .c => .ldDC
  | .d, .d => .ldDD
  | .d, .e => .ldDE
  | .d, .h => .ldDH
  | .d, .l => .ldDL
  | .d, .indHl => .ldDIndHl
  | .d, .a => .ldDA
  | .e, .b => .ldEB
  | .e, .c => .ldEC
  | .e, .d => .ldED
  | .e, .e => .ldEE
  | .e, .h => .ldEH
  | .e, .l => .ldEL
  | .e, .indHl => .ldEIndHl
  | .e, .a => .ldEA
  | .h, .b => .ldHB
  | .h, .c => .ldHC
  | .h, .d => .ldHD
  | .h, .e => .ldHE
  | .h, .h => .ldHH
  | .h, .l => .ldHL
  | .h, .indHl => .ldHIndHl
  | .h, .a => .ldHA
  | .l, .b => .ldLB
  | .l, .c => .ldLC
  | .l, .d => .ldLD
  | .l, .e => .ldLE
  | .l, .h => .ldLH
  | .l, .l => .ldLL
  | .l, .indHl => .ldLIndHl
  | .l, .a => .ldLA
  | .indHl, .b => .ldIndHlB
  | .indHl, .c => .ldIndHlC
  | .indHl, .d => .ldIndHlD
  | .indHl, .e => .ldIndHlE
  | .indHl, .h => .ldIndHlH
  | .indHl, .l => .ldIndHlL
  | .indHl, .indHl => .halt
  | .indHl, .a => .ldIndHlA
  | .a, .b => .ldAB
  | .a, .c => .ldAC
  | .a, .d => .ldAD
  | .a, .e => .ldAE
  | .a, .h => .ldAH
  | .a, .l => .ldAL
  | .a, .indHl => .ldAIndHl
  | .a, .a => .ldAA

/-- The accumulator operations on r and (HL) (41_alu8.md R207–R229). -/
def Instr.aluForm : AluOp → Operand8 → Instr
  | .add, .b => .addAB
  | .add, .c => .addAC
  | .add, .d => .addAD
  | .add, .e => .addAE
  | .add, .h => .addAH
  | .add, .l => .addAL
  | .add, .indHl => .addAIndHl
  | .add, .a => .addAA
  | .adc, .b => .adcAB
  | .adc, .c => .adcAC
  | .adc, .d => .adcAD
  | .adc, .e => .adcAE
  | .adc, .h => .adcAH
  | .adc, .l => .adcAL
  | .adc, .indHl => .adcAIndHl
  | .adc, .a => .adcAA
  | .sub, .b => .subB
  | .sub, .c => .subC
  | .sub, .d => .subD
  | .sub, .e => .subE
  | .sub, .h => .subH
  | .sub, .l => .subL
  | .sub, .indHl => .subIndHl
  | .sub, .a => .subA
  | .sbc, .b => .sbcAB
  | .sbc, .c => .sbcAC
  | .sbc, .d => .sbcAD
  | .sbc, .e => .sbcAE
  | .sbc, .h => .sbcAH
  | .sbc, .l => .sbcAL
  | .sbc, .indHl => .sbcAIndHl
  | .sbc, .a => .sbcAA
  | .and, .b => .andB
  | .and, .c => .andC
  | .and, .d => .andD
  | .and, .e => .andE
  | .and, .h => .andH
  | .and, .l => .andL
  | .and, .indHl => .andIndHl
  | .and, .a => .andA
  | .xor, .b => .xorB
  | .xor, .c => .xorC
  | .xor, .d => .xorD
  | .xor, .e => .xorE
  | .xor, .h => .xorH
  | .xor, .l => .xorL
  | .xor, .indHl => .xorIndHl
  | .xor, .a => .xorA
  | .or, .b => .orB
  | .or, .c => .orC
  | .or, .d => .orD
  | .or, .e => .orE
  | .or, .h => .orH
  | .or, .l => .orL
  | .or, .indHl => .orIndHl
  | .or, .a => .orA
  | .cp, .b => .cpB
  | .cp, .c => .cpC
  | .cp, .d => .cpD
  | .cp, .e => .cpE
  | .cp, .h => .cpH
  | .cp, .l => .cpL
  | .cp, .indHl => .cpIndHl
  | .cp, .a => .cpA

/-- The accumulator operations on an immediate (41_alu8.md R209, R212, R215, R218, R221, R224, R227, R230). -/
def Instr.aluImmForm (n : Byte) : AluOp → Instr
  | .add => .addAN n
  | .adc => .adcAN n
  | .sub => .subN n
  | .sbc => .sbcAN n
  | .and => .andN n
  | .xor => .xorN n
  | .or => .orN n
  | .cp => .cpN n

/-- LD r,n and LD (HL),n (40_load.md R161, R164). -/
def Instr.loadImmForm (n : Byte) : Operand8 → Instr
  | .b => .ldBN n
  | .c => .ldCN n
  | .d => .ldDN n
  | .e => .ldEN n
  | .h => .ldHN n
  | .l => .ldLN n
  | .indHl => .ldIndHlN n
  | .a => .ldAN n

/-- INC r and INC (HL) (41_alu8.md R231, R232). -/
def Instr.incForm : Operand8 → Instr
  | .b => .incB
  | .c => .incC
  | .d => .incD
  | .e => .incE
  | .h => .incH
  | .l => .incL
  | .indHl => .incIndHl
  | .a => .incA

/-- DEC r and DEC (HL) (41_alu8.md R233, R234). -/
def Instr.decForm : Operand8 → Instr
  | .b => .decB
  | .c => .decC
  | .d => .decD
  | .e => .decE
  | .h => .decH
  | .l => .decL
  | .indHl => .decIndHl
  | .a => .decA

/-- LD rr,nn (40_load.md R179). -/
def Instr.loadPairForm (nn : Word) : Pair → Instr
  | .bc => .ldBcNn nn
  | .de => .ldDeNn nn
  | .hl => .ldHlNn nn
  | .sp => .ldSpNn nn

/-- INC rr (42_alu16.md R250). -/
def Instr.incPairForm : Pair → Instr
  | .bc => .incBc
  | .de => .incDe
  | .hl => .incHl
  | .sp => .incSp

/-- DEC rr (42_alu16.md R251). -/
def Instr.decPairForm : Pair → Instr
  | .bc => .decBc
  | .de => .decDe
  | .hl => .decHl
  | .sp => .decSp

/-- ADD HL,rr (42_alu16.md R252). -/
def Instr.addHlForm : Pair → Instr
  | .bc => .addHlBc
  | .de => .addHlDe
  | .hl => .addHlHl
  | .sp => .addHlSp

/-- PUSH rr (40_load.md R182). -/
def Instr.pushForm : StackPair → Instr
  | .bc => .pushBc
  | .de => .pushDe
  | .hl => .pushHl
  | .af => .pushAf

/-- POP rr and POP AF (40_load.md R183, R184). -/
def Instr.popForm : StackPair → Instr
  | .bc => .popBc
  | .de => .popDe
  | .hl => .popHl
  | .af => .popAf

/-- JP cc,nn (44_control.md R311). -/
def Instr.jumpIfForm (nn : Word) : Cond → Instr
  | .nz => .jpNzNn nn
  | .z => .jpZNn nn
  | .nc => .jpNcNn nn
  | .c => .jpCNn nn

/-- JR cc,e (44_control.md R314). -/
def Instr.jumpRelativeIfForm (e : Byte) : Cond → Instr
  | .nz => .jrNzE e
  | .z => .jrZE e
  | .nc => .jrNcE e
  | .c => .jrCE e

/-- CALL cc,nn (44_control.md R316). -/
def Instr.callIfForm (nn : Word) : Cond → Instr
  | .nz => .callNzNn nn
  | .z => .callZNn nn
  | .nc => .callNcNn nn
  | .c => .callCNn nn

/-- RET cc (44_control.md R318). -/
def Instr.returnIfForm : Cond → Instr
  | .nz => .retNz
  | .z => .retZ
  | .nc => .retNc
  | .c => .retC

/-- RST t, t = y * 8 (44_control.md R320). -/
def Instr.restartForm : Fin 8 → Instr
  | 0 => .rst00
  | 1 => .rst08
  | 2 => .rst10
  | 3 => .rst18
  | 4 => .rst20
  | 5 => .rst28
  | 6 => .rst30
  | 7 => .rst38

/-- The CB rotates, shifts and SWAP (43_rotate_shift_bit.md R275–R290). -/
def Instr.shiftForm : ShiftOp → Operand8 → Instr
  | .rlc, .b => .rlcB
  | .rlc, .c => .rlcC
  | .rlc, .d => .rlcD
  | .rlc, .e => .rlcE
  | .rlc, .h => .rlcH
  | .rlc, .l => .rlcL
  | .rlc, .indHl => .rlcIndHl
  | .rlc, .a => .rlcA
  | .rrc, .b => .rrcB
  | .rrc, .c => .rrcC
  | .rrc, .d => .rrcD
  | .rrc, .e => .rrcE
  | .rrc, .h => .rrcH
  | .rrc, .l => .rrcL
  | .rrc, .indHl => .rrcIndHl
  | .rrc, .a => .rrcA
  | .rl, .b => .rlB
  | .rl, .c => .rlC
  | .rl, .d => .rlD
  | .rl, .e => .rlE
  | .rl, .h => .rlH
  | .rl, .l => .rlL
  | .rl, .indHl => .rlIndHl
  | .rl, .a => .rlA
  | .rr, .b => .rrB
  | .rr, .c => .rrC
  | .rr, .d => .rrD
  | .rr, .e => .rrE
  | .rr, .h => .rrH
  | .rr, .l => .rrL
  | .rr, .indHl => .rrIndHl
  | .rr, .a => .rrA
  | .sla, .b => .slaB
  | .sla, .c => .slaC
  | .sla, .d => .slaD
  | .sla, .e => .slaE
  | .sla, .h => .slaH
  | .sla, .l => .slaL
  | .sla, .indHl => .slaIndHl
  | .sla, .a => .slaA
  | .sra, .b => .sraB
  | .sra, .c => .sraC
  | .sra, .d => .sraD
  | .sra, .e => .sraE
  | .sra, .h => .sraH
  | .sra, .l => .sraL
  | .sra, .indHl => .sraIndHl
  | .sra, .a => .sraA
  | .swap, .b => .swapB
  | .swap, .c => .swapC
  | .swap, .d => .swapD
  | .swap, .e => .swapE
  | .swap, .h => .swapH
  | .swap, .l => .swapL
  | .swap, .indHl => .swapIndHl
  | .swap, .a => .swapA
  | .srl, .b => .srlB
  | .srl, .c => .srlC
  | .srl, .d => .srlD
  | .srl, .e => .srlE
  | .srl, .h => .srlH
  | .srl, .l => .srlL
  | .srl, .indHl => .srlIndHl
  | .srl, .a => .srlA

/-- BIT b,r and BIT b,(HL) (43_rotate_shift_bit.md R291, R292). -/
def Instr.bitForm : Fin 8 → Operand8 → Instr
  | 0, .b => .bit0B
  | 0, .c => .bit0C
  | 0, .d => .bit0D
  | 0, .e => .bit0E
  | 0, .h => .bit0H
  | 0, .l => .bit0L
  | 0, .indHl => .bit0IndHl
  | 0, .a => .bit0A
  | 1, .b => .bit1B
  | 1, .c => .bit1C
  | 1, .d => .bit1D
  | 1, .e => .bit1E
  | 1, .h => .bit1H
  | 1, .l => .bit1L
  | 1, .indHl => .bit1IndHl
  | 1, .a => .bit1A
  | 2, .b => .bit2B
  | 2, .c => .bit2C
  | 2, .d => .bit2D
  | 2, .e => .bit2E
  | 2, .h => .bit2H
  | 2, .l => .bit2L
  | 2, .indHl => .bit2IndHl
  | 2, .a => .bit2A
  | 3, .b => .bit3B
  | 3, .c => .bit3C
  | 3, .d => .bit3D
  | 3, .e => .bit3E
  | 3, .h => .bit3H
  | 3, .l => .bit3L
  | 3, .indHl => .bit3IndHl
  | 3, .a => .bit3A
  | 4, .b => .bit4B
  | 4, .c => .bit4C
  | 4, .d => .bit4D
  | 4, .e => .bit4E
  | 4, .h => .bit4H
  | 4, .l => .bit4L
  | 4, .indHl => .bit4IndHl
  | 4, .a => .bit4A
  | 5, .b => .bit5B
  | 5, .c => .bit5C
  | 5, .d => .bit5D
  | 5, .e => .bit5E
  | 5, .h => .bit5H
  | 5, .l => .bit5L
  | 5, .indHl => .bit5IndHl
  | 5, .a => .bit5A
  | 6, .b => .bit6B
  | 6, .c => .bit6C
  | 6, .d => .bit6D
  | 6, .e => .bit6E
  | 6, .h => .bit6H
  | 6, .l => .bit6L
  | 6, .indHl => .bit6IndHl
  | 6, .a => .bit6A
  | 7, .b => .bit7B
  | 7, .c => .bit7C
  | 7, .d => .bit7D
  | 7, .e => .bit7E
  | 7, .h => .bit7H
  | 7, .l => .bit7L
  | 7, .indHl => .bit7IndHl
  | 7, .a => .bit7A

/-- RES b,r and RES b,(HL) (43_rotate_shift_bit.md R293, R294). -/
def Instr.resForm : Fin 8 → Operand8 → Instr
  | 0, .b => .res0B
  | 0, .c => .res0C
  | 0, .d => .res0D
  | 0, .e => .res0E
  | 0, .h => .res0H
  | 0, .l => .res0L
  | 0, .indHl => .res0IndHl
  | 0, .a => .res0A
  | 1, .b => .res1B
  | 1, .c => .res1C
  | 1, .d => .res1D
  | 1, .e => .res1E
  | 1, .h => .res1H
  | 1, .l => .res1L
  | 1, .indHl => .res1IndHl
  | 1, .a => .res1A
  | 2, .b => .res2B
  | 2, .c => .res2C
  | 2, .d => .res2D
  | 2, .e => .res2E
  | 2, .h => .res2H
  | 2, .l => .res2L
  | 2, .indHl => .res2IndHl
  | 2, .a => .res2A
  | 3, .b => .res3B
  | 3, .c => .res3C
  | 3, .d => .res3D
  | 3, .e => .res3E
  | 3, .h => .res3H
  | 3, .l => .res3L
  | 3, .indHl => .res3IndHl
  | 3, .a => .res3A
  | 4, .b => .res4B
  | 4, .c => .res4C
  | 4, .d => .res4D
  | 4, .e => .res4E
  | 4, .h => .res4H
  | 4, .l => .res4L
  | 4, .indHl => .res4IndHl
  | 4, .a => .res4A
  | 5, .b => .res5B
  | 5, .c => .res5C
  | 5, .d => .res5D
  | 5, .e => .res5E
  | 5, .h => .res5H
  | 5, .l => .res5L
  | 5, .indHl => .res5IndHl
  | 5, .a => .res5A
  | 6, .b => .res6B
  | 6, .c => .res6C
  | 6, .d => .res6D
  | 6, .e => .res6E
  | 6, .h => .res6H
  | 6, .l => .res6L
  | 6, .indHl => .res6IndHl
  | 6, .a => .res6A
  | 7, .b => .res7B
  | 7, .c => .res7C
  | 7, .d => .res7D
  | 7, .e => .res7E
  | 7, .h => .res7H
  | 7, .l => .res7L
  | 7, .indHl => .res7IndHl
  | 7, .a => .res7A

/-- SET b,r and SET b,(HL) (43_rotate_shift_bit.md R295, R296). -/
def Instr.setForm : Fin 8 → Operand8 → Instr
  | 0, .b => .set0B
  | 0, .c => .set0C
  | 0, .d => .set0D
  | 0, .e => .set0E
  | 0, .h => .set0H
  | 0, .l => .set0L
  | 0, .indHl => .set0IndHl
  | 0, .a => .set0A
  | 1, .b => .set1B
  | 1, .c => .set1C
  | 1, .d => .set1D
  | 1, .e => .set1E
  | 1, .h => .set1H
  | 1, .l => .set1L
  | 1, .indHl => .set1IndHl
  | 1, .a => .set1A
  | 2, .b => .set2B
  | 2, .c => .set2C
  | 2, .d => .set2D
  | 2, .e => .set2E
  | 2, .h => .set2H
  | 2, .l => .set2L
  | 2, .indHl => .set2IndHl
  | 2, .a => .set2A
  | 3, .b => .set3B
  | 3, .c => .set3C
  | 3, .d => .set3D
  | 3, .e => .set3E
  | 3, .h => .set3H
  | 3, .l => .set3L
  | 3, .indHl => .set3IndHl
  | 3, .a => .set3A
  | 4, .b => .set4B
  | 4, .c => .set4C
  | 4, .d => .set4D
  | 4, .e => .set4E
  | 4, .h => .set4H
  | 4, .l => .set4L
  | 4, .indHl => .set4IndHl
  | 4, .a => .set4A
  | 5, .b => .set5B
  | 5, .c => .set5C
  | 5, .d => .set5D
  | 5, .e => .set5E
  | 5, .h => .set5H
  | 5, .l => .set5L
  | 5, .indHl => .set5IndHl
  | 5, .a => .set5A
  | 6, .b => .set6B
  | 6, .c => .set6C
  | 6, .d => .set6D
  | 6, .e => .set6E
  | 6, .h => .set6H
  | 6, .l => .set6L
  | 6, .indHl => .set6IndHl
  | 6, .a => .set6A
  | 7, .b => .set7B
  | 7, .c => .set7C
  | 7, .d => .set7D
  | 7, .e => .set7E
  | 7, .h => .set7H
  | 7, .l => .set7L
  | 7, .indHl => .set7IndHl
  | 7, .a => .set7A

/-- The eleven illegal opcodes, in the order of `illegalOpcodes` (30_encoding.md R132). -/
def Instr.illegalForm : Fin 11 → Instr
  | 0 => .illegalD3
  | 1 => .illegalDB
  | 2 => .illegalDD
  | 3 => .illegalE3
  | 4 => .illegalE4
  | 5 => .illegalEB
  | 6 => .illegalEC
  | 7 => .illegalED
  | 8 => .illegalF4
  | 9 => .illegalFC
  | 10 => .illegalFD

end Sys2Proof
end

