-- ==== Sys2Proof/Machine/Params.lean ====
section
/-! DEFINITION. The implementation parameters of 00_scope.md section 3 that the block takes as arguments (R6–R10), as plain
data, and the spec's defaults for them. No step writes them. -/

namespace Sys2Proof.Machine

/-- The parameters of R6–R10, fixed for a run. -/
structure Params where
  /-- `TICKS` (R6): the base cost of each primary opcode. -/
  ticks : Vector Nat 256
  /-- `CB_TICKS` (R7): what each CB sub-opcode adds. -/
  cbTicks : Vector Nat 256
  /-- `TAKEN_EXTRA_JR` (R8). -/
  takenJr : Nat
  /-- `TAKEN_EXTRA_JP` (R8). -/
  takenJp : Nat
  /-- `TAKEN_EXTRA_CALL` (R8). -/
  takenCall : Nat
  /-- `TAKEN_EXTRA_RET` (R8). -/
  takenRet : Nat
  /-- `IMPLEMENTED` (R9): bit `op` is set when opcode `op` has a handler. -/
  implemented : BitVec 256
  /-- `LY_SENTINEL` (R10). -/
  lySentinel : Byte
  deriving DecidableEq, Repr

/-- The default `TICKS` of 70_reset_and_hazards.md R431, row = high nibble, column = low nibble; the illegal opcodes cost
nothing (R434). PRESUMED (log 5). -/
def defaultTickRows : List (List Nat) :=
  [[4, 12, 8, 8, 4, 4, 8, 4, 20, 8, 8, 8, 4, 4, 8, 4],
   [4, 12, 8, 8, 4, 4, 8, 4, 12, 8, 8, 8, 4, 4, 8, 4],
   [8, 12, 8, 8, 4, 4, 8, 4, 8, 8, 8, 8, 4, 4, 8, 4],
   [8, 12, 8, 8, 12, 12, 12, 4, 8, 8, 8, 8, 4, 4, 8, 4],
   [4, 4, 4, 4, 4, 4, 8, 4, 4, 4, 4, 4, 4, 4, 8, 4],
   [4, 4, 4, 4, 4, 4, 8, 4, 4, 4, 4, 4, 4, 4, 8, 4],
   [4, 4, 4, 4, 4, 4, 8, 4, 4, 4, 4, 4, 4, 4, 8, 4],
   [8, 8, 8, 8, 8, 8, 4, 8, 4, 4, 4, 4, 4, 4, 8, 4],
   [4, 4, 4, 4, 4, 4, 8, 4, 4, 4, 4, 4, 4, 4, 8, 4],
   [4, 4, 4, 4, 4, 4, 8, 4, 4, 4, 4, 4, 4, 4, 8, 4],
   [4, 4, 4, 4, 4, 4, 8, 4, 4, 4, 4, 4, 4, 4, 8, 4],
   [4, 4, 4, 4, 4, 4, 8, 4, 4, 4, 4, 4, 4, 4, 8, 4],
   [8, 12, 12, 16, 12, 16, 8, 16, 8, 16, 12, 4, 12, 24, 8, 16],
   [8, 12, 12, 0, 12, 16, 8, 16, 8, 16, 12, 0, 12, 0, 8, 16],
   [12, 12, 8, 0, 0, 16, 8, 16, 16, 4, 16, 0, 0, 0, 8, 16],
   [12, 12, 8, 4, 0, 16, 8, 16, 12, 8, 16, 4, 0, 0, 8, 16]]

/-- The default base cost of opcode `n`. -/
def defaultTick (n : Nat) : Nat :=
  (defaultTickRows.getD (n / 16) []).getD (n % 16) 0

/-- The default `CB_TICKS` of R433: 4 for a register operand, 12 for an (HL) form, 8 for BIT b,(HL). PRESUMED (log 5). -/
def defaultCbTick (n : Nat) : Nat :=
  if n % 8 ≠ 6 then 4 else if n / 64 = 1 then 8 else 12

/-- The default `IMPLEMENTED` of R9: every opcode not listed in 30_encoding.md R132. DESIGN CHOICE (log 6). -/
def defaultImplemented : BitVec 256 :=
  illegalOpcodes.foldl (fun m op => m &&& ~~~(1#256 <<< op.toNat)) (BitVec.allOnes 256)

/-- The parameters at the spec's defaults, `TAKEN_EXTRA` from R432; `LY_SENTINEL` is OPEN (log 3). -/
def defaultParams : Params where
  ticks := ⟨⟨(List.range 256).map defaultTick⟩, by simp⟩
  cbTicks := ⟨⟨(List.range 256).map defaultCbTick⟩, by simp⟩
  takenJr := 4
  takenJp := 4
  takenCall := 12
  takenRet := 12
  implemented := defaultImplemented
  lySentinel := Config.lySentinel

/-- `TICKS[op]`. -/
def Params.ticksOf (p : Params) (op : Byte) : Nat :=
  p.ticks.get op.toFin

/-- `CB_TICKS[n]`. -/
def Params.cbTicksOf (p : Params) (n : Byte) : Nat :=
  p.cbTicks.get n.toFin

/-- `trap(op)` of 30_encoding.md R129: the opcode has no instruction (R132) or no implemented handler (R133). -/
def Params.traps (p : Params) (op : Byte) : Bool :=
  illegalOpcodes.contains op || !p.implemented.getLsbD op.toNat

/-- The cost of the instruction with these bytes before any `TAKEN_EXTRA` (R130). -/
def Params.baseCost (p : Params) : List Byte → Nat
  | op :: n :: _ => p.ticksOf op + (if op = 0xCB then p.cbTicksOf n else 0)
  | [op] => p.ticksOf op
  | [] => 0

end Sys2Proof.Machine
end

