-- ==== Sys2Proof/Machine/State.lean ====
section
/-! DEFINITION. The state of the block (10_state.md), the reasons a step can stop, and the state after reset
(70_reset_and_hazards.md R420). -/

namespace Sys2Proof.Machine

/-- The register file (10_state.md R30, R36, R37). The pairs are views of these (R31). -/
structure Regs where
  a : Byte
  f : Byte
  b : Byte
  c : Byte
  d : Byte
  e : Byte
  h : Byte
  l : Byte
  sp : Word
  pc : Word
  deriving DecidableEq, Repr

/-- The record of an IllegalOpcode fault (60_exceptions.md R361). -/
structure FaultRecord where
  code : Nat
  addr : Word
  opcode : Byte
  width : Nat
  regs : Regs
  deriving DecidableEq, Repr

/-- `run` (10_state.md R39). -/
inductive RunState where
  | running
  | faulted (record : FaultRecord)
  deriving DecidableEq, Repr

/-- The interrupt controller (10_state.md R41–R43). -/
structure Intr where
  master : Bool
  enable : Byte
  pending : Byte
  deriving DecidableEq, Repr

/-- The four modes of the pixel-timing unit (10_state.md R48). -/
inductive PpuMode where
  | hblank
  | vblank
  | oam
  | vram
  deriving DecidableEq, Repr

/-- The pixel-timing state (10_state.md R45–R49). -/
structure Ppu where
  control : Byte
  scrollY : Byte
  scrollX : Byte
  scanline : Nat
  tick : Nat
  mode : PpuMode
  lastTicks : Nat
  deriving DecidableEq, Repr

/-- The plain stores of 10_state.md R50, all but the I/O buffer: a byte is keyed by the bus address of its home (rom from
0x0000, vram 0x8000, sram 0xA000, wram 0xC000, oam 0xFE00, hram 0xFF80 to 0xFFFF, of which FFFF is hidden by the enable
register), the addresses rising (log 10). -/
abbrev Memory := List Host.Cell

/-- Whether a ROM image is loaded (70_reset_and_hazards.md R423, R424). -/
inductive Cartridge where
  | absent
  | loadFailed
  | loaded
  deriving DecidableEq, Repr

/-- A diagnostic, an output event (60_exceptions.md R363). -/
inductive Diag where
  | outOfRange (addr : Word)
  | fault (record : FaultRecord)
  | cartridge (name : List Byte) (type : Byte)
  deriving DecidableEq, Repr

/-- The whole state of the block. -/
structure State where
  regs : Regs
  /-- The stopped latch (10_state.md R38). -/
  stopped : Bool
  run : RunState
  /-- The cycle counter (10_state.md R40). -/
  ticks : Nat
  intr : Intr
  ppu : Ppu
  mem : Memory
  /-- The I/O buffer (10_state.md R50); bytes 0x80 and up are unreachable (92 D37). -/
  io : Vector Byte 256
  cartridge : Cartridge
  /-- `ROM_LEN` (00_scope.md R5). -/
  romLen : Nat
  params : Params
  /-- Whether an input source is wired to JOYPAD (00_scope.md R12). -/
  joypadWired : Bool
  /-- The model's own: how many free values have been read (log 4). No spec value. -/
  draws : Nat
  /-- The diagnostics stream, newest first (60_exceptions.md R363). -/
  diags : List Diag
  deriving DecidableEq, Repr

/-- Why the machine stops with a fault. Safe: the spec gives the fault. -/
inductive Fault where
  /-- Raised by `step`, in the iteration whose CPU step traps and in every later one (60_exceptions.md R360–R362, 93 I5,
  I7). Safe: the spec makes it terminal. -/
  | illegalOpcode (record : FaultRecord)
  deriving DecidableEq, Repr

/-- Why a step has no meaning. -/
inductive Refusal where
  /-- For an arm of `exec` with no meaning yet; no arm raises it. Safe. -/
  | notModelled (mnemonic : String)
  /-- Raised by `step` before any ROM is loaded (93 I8). Safe: the spec gives no outcome. -/
  | noCartridge
  /-- Raised by `step` after a failed load: "the core never starts stepping" (70_reset_and_hazards.md R424). Safe. -/
  | cartridgeLoadFailed
  /-- Would be raised by `step` on bytes the decoder rejects; a fetch never yields such bytes (30_encoding.md R138). Safe. -/
  | undecodable (e : DecodeError)
  deriving DecidableEq, Repr

/-- The machine right after reset (70_reset_and_hazards.md R420, R421). Nothing is loaded: the ROM is the loader's (R423,
log 1); `IO_RESET` is OPEN (log 2). -/
def State.reset : State where
  regs :=
    { a := 0x01, f := 0xB0, b := 0x00, c := 0x13, d := 0x00, e := 0xD8, h := 0x01, l := 0x4D, sp := 0xFFFE, pc := 0x0100 }
  stopped := false
  run := .running
  ticks := 0
  intr := { master := true, enable := 0x00, pending := 0x00 }
  ppu :=
    { control := 0x00, scrollY := 0x00, scrollX := 0x00, scanline := 0, tick := 0, mode := .hblank, lastTicks := 0 }
  mem := []
  io := ⟨⟨(List.range 256).map Config.ioReset⟩, by simp⟩
  cartridge := .absent
  romLen := 0
  params := defaultParams
  joypadWired := false
  draws := 0
  diags := []

end Sys2Proof.Machine
end

