-- ==== Sys2Proof/Machine/Ops.lean ====
section
/-! DEFINITION. The named operations over memory, the bus, the registers and the stack (20_memory.md, 10_state.md), the
trap (45_system.md R345) and the interrupt dispatch with the return from it (60_exceptions.md R372, 44_control.md R319). -/

namespace Sys2Proof.Machine

/-! ### The backing stores -/

/-- What a byte no one has written reads as: reset zeroes every RAM region (70_reset_and_hazards.md R420). -/
def Memory.unlisted : Byte := 0x00

/-- The byte stored at a home address. -/
def Memory.read : Memory → Nat → Byte
  | [], _ => Memory.unlisted
  | (k', v) :: m, k => if k' = k then v else Memory.read m k

/-- Storing a byte at a home address, keeping the canonical form. -/
def Memory.write : Memory → Nat → Byte → Memory
  | [], k, v => if v = Memory.unlisted then [] else [(k, v)]
  | (k', v') :: m, k, v =>
    if k < k' then
      if v = Memory.unlisted then (k', v') :: m else (k, v) :: (k', v') :: m
    else if k = k' then
      if v = Memory.unlisted then m else (k, v) :: m
    else (k', v') :: Memory.write m k v

/-- The canonical form: addresses strictly rising, and no entry equal to what an unlisted address reads as. -/
abbrev Memory.wf (m : Memory) : Prop :=
  m.Pairwise (fun x y => x.1 < y.1) ∧ ∀ c ∈ m, c.2 ≠ Memory.unlisted

/-! ### Writing one piece of state -/

/-- `pc <- v`. -/
def State.setPc (s : State) (v : Word) : State := { s with regs := { s.regs with pc := v } }

/-- `sp <- v`. -/
def State.setSp (s : State) (v : Word) : State := { s with regs := { s.regs with sp := v } }

/-- `a <- v`. -/
def State.setA (s : State) (v : Byte) : State := { s with regs := { s.regs with a := v } }

/-- Every write to `f` stores `v & 0xF0` (10_state.md R33). -/
def State.setF (s : State) (v : Byte) : State := { s with regs := { s.regs with f := v &&& 0xF0 } }

/-- `ticks <- ticks + n` (10_state.md R40). -/
def State.addTicks (s : State) (n : Nat) : State := { s with ticks := s.ticks + n }

/-- Setting or clearing the stopped latch (10_state.md R38). -/
def State.setStopped (s : State) (b : Bool) : State := { s with stopped := b }

/-- `run <- r` (10_state.md R39). -/
def State.setRun (s : State) (r : RunState) : State := { s with run := r }

/-- `master <- b` (10_state.md R41). -/
def State.setMaster (s : State) (b : Bool) : State := { s with intr := { s.intr with master := b } }

/-- `enable <- v` (10_state.md R42). -/
def State.setEnable (s : State) (v : Byte) : State := { s with intr := { s.intr with enable := v } }

/-- `pending <- v` (10_state.md R43). -/
def State.setPending (s : State) (v : Byte) : State := { s with intr := { s.intr with pending := v } }

/-- `control <- v` (10_state.md R45). -/
def State.setControl (s : State) (v : Byte) : State := { s with ppu := { s.ppu with control := v } }

/-- `scrollY <- v` (10_state.md R45). -/
def State.setScrollY (s : State) (v : Byte) : State := { s with ppu := { s.ppu with scrollY := v } }

/-- `scrollX <- v` (10_state.md R45). -/
def State.setScrollX (s : State) (v : Byte) : State := { s with ppu := { s.ppu with scrollX := v } }

/-- Storing a byte in one of the plain stores. -/
def State.setMem (s : State) (k : Nat) (v : Byte) : State := { s with mem := s.mem.write k v }

/-- `io[i] <- v`. -/
def State.setIo (s : State) (i : Fin 256) (v : Byte) : State := { s with io := s.io.set i v }

/-- Emitting a diagnostic (60_exceptions.md R363). -/
def State.addDiag (s : State) (d : Diag) : State := { s with diags := d :: s.diags }

/-- Consuming one free value (20_memory.md R82, log 4). -/
def State.addDraw (s : State) : State := { s with draws := s.draws + 1 }

/-! ### The address decoder -/

/-- What the decoder of 20_memory.md R72 selects. `ram k` is a byte of vram, sram, wram, oam or hram at home address `k`. -/
inductive BusTarget where
  | rom (i : Nat)
  | ram (k : Nat)
  | joypad
  | divider
  | pending
  | control
  | scrollY
  | scrollX
  | scanline
  | dma
  | io (i : Fin 256)
  | enable
  deriving DecidableEq, Repr

/-- R72: the first range that matches. The echo maps to work RAM, "address minus 0x2000" (R78). -/
def busTarget (a : Word) : BusTarget :=
  let n := a.toNat
  if n < 0x8000 then .rom n
  else if n < 0xA000 then .ram n
  else if n < 0xC000 then .ram n
  else if n < 0xE000 then .ram n
  else if n < 0xFE00 then .ram (n - 0x2000)
  else if n < 0xFF00 then .ram n
  else if n = 0xFF00 then .joypad
  else if n = 0xFF04 then .divider
  else if n = 0xFF0F then .pending
  else if n = 0xFF40 then .control
  else if n = 0xFF42 then .scrollY
  else if n = 0xFF43 then .scrollX
  else if n = 0xFF44 then .scanline
  else if n = 0xFF46 then .dma
  else if n < 0xFF80 then .io (Fin.ofNat 256 (n - 0xFF00))
  else if n < 0xFFFF then .ram n
  else .enable

/-! ### Byte access (R71–R95) -/

/-- `JOYPAD(io[0x00])` (R80): 0xFF with nothing wired, else the host's answer (log 4). -/
def State.joypadByte (s : State) : Byte :=
  if s.joypadWired then Config.joypad s.draws s.io[0x00] else 0xFF

/-- The value `readByte(a)` returns. -/
def State.readByte (s : State) (a : Word) : Byte :=
  match busTarget a with
  | .rom i => if i < s.romLen then s.mem.read i else 0x00
  | .ram k => s.mem.read k
  | .joypad => s.joypadByte
  | .divider => Config.divDraw s.draws
  | .pending => s.intr.pending
  | .control => s.ppu.control
  | .scrollY => s.ppu.scrollY
  | .scrollX => s.ppu.scrollX
  | .scanline => s.params.lySentinel
  | .dma => s.io[0x46]
  | .io i => s.io[i]
  | .enable => s.intr.enable

/-- The state after `readByte(a)`: a draw or a host answer is consumed (R82, R104), a read past the image emits a
diagnostic (R73, R95). -/
def State.afterRead (s : State) (a : Word) : State :=
  match busTarget a with
  | .rom i => if i < s.romLen then s else s.addDiag (.outOfRange a)
  | .joypad => if s.joypadWired then s.addDraw else s
  | .divider => s.addDraw
  | .ram _ => s
  | .pending => s
  | .control => s
  | .scrollY => s
  | .scrollX => s
  | .scanline => s
  | .dma => s
  | .io _ => s
  | .enable => s

/-- `oam[i] <- readByte(src + i)`, one turn of the copy of R90. -/
def dmaByte (src : Word) (s : State) (i : Nat) : State :=
  (s.afterRead (src + BitVec.ofNat 16 i)).setMem (0xFE00 + i) (s.readByte (src + BitVec.ofNat 16 i))

/-- The copy of R90: 160 bytes, ascending, through the full decode. -/
def dmaCopy (src : Word) (s : State) : State :=
  (List.range 160).foldl (dmaByte src) s

/-- `writeByte(a, v)` (R74–R94). -/
def State.writeByte (s : State) (a : Word) (v : Byte) : State :=
  match busTarget a with
  | .rom _ => s
  | .ram k => s.setMem k v
  | .joypad => s.setIo 0x00 v
  | .divider => s.setIo 0x04 v
  | .pending => s.setPending v
  | .control => s.setControl v
  | .scrollY => s.setScrollY v
  | .scrollX => s.setScrollX v
  | .scanline => s.setIo 0x44 v
  | .dma => dmaCopy (wordOfBytes 0x00 v) (s.setIo 0x46 v)
  | .io i => s.setIo i v
  | .enable => s.setEnable v

/-! ### Two-byte access and the stack (R96–R99) -/

/-- The value `readShort(a)` returns: the byte at `a` is read first (R96). -/
def State.readShort (s : State) (a : Word) : Word :=
  wordOfBytes (s.readByte a) ((s.afterRead a).readByte (a + 1))

/-- The state after `readShort(a)`. -/
def State.afterReadShort (s : State) (a : Word) : State :=
  (s.afterRead a).afterRead (a + 1)

/-- `writeShort(a, v)`: the low byte first (R97). -/
def State.writeShort (s : State) (a : Word) (v : Word) : State :=
  (s.writeByte a (loByte v)).writeByte (a + 1) (hiByte v)

/-- `Push(v)` (R98). -/
def State.pushWord (s : State) (v : Word) : State :=
  (s.setSp (s.regs.sp - 2)).writeShort (s.regs.sp - 2) v

/-- The value `Pop()` returns (R99). -/
def State.popValue (s : State) : Word :=
  s.readShort s.regs.sp

/-- The state after `Pop()` (R99). -/
def State.afterPop (s : State) : State :=
  (s.afterReadShort s.regs.sp).setSp (s.regs.sp + 2)

/-! ### The trap and the interrupt dispatch -/

/-- `FAULT_ILLEGAL_OPCODE` (60_exceptions.md R360). -/
def faultIllegalOpcode : Nat := 1

/-- The trap of 45_system.md R345, run with `pc` past the opcode and its `w` operand bytes: `pc` is rewound to the opcode,
the record holds every register, `run` becomes Faulted, and the fault is reported (R363). Nothing else changes. -/
def takeIllegalOpcode (op : Byte) (w : Nat) (s : State) : State :=
  let addr := s.regs.pc - 1 - BitVec.ofNat 16 w
  let t := s.setPc addr
  let record : FaultRecord :=
    { code := faultIllegalOpcode, addr := addr, opcode := op, width := w, regs := t.regs }
  (t.setRun (.faulted record)).addDiag (.fault record)

/-- The vector of source `i` (10_state.md R44): 0x40, 0x48, 0x50, 0x58, 0x60. -/
def interruptVector (i : Nat) : Word :=
  BitVec.ofNat 16 (0x40 + 8 * i)

/-- The cost of a dispatch (60_exceptions.md R373). -/
def dispatchCost : Nat := 12

/-- The dispatch of source `i` (60_exceptions.md R372): clear its pending bit, clear `master`, push `pc`, go to the
vector, add the cost. -/
def dispatchInterrupt (i : Nat) (s : State) : State :=
  let t := (s.setPending (s.intr.pending &&& ~~~(1#8 <<< i))).setMaster false
  ((t.pushWord t.regs.pc).setPc (interruptVector i)).addTicks dispatchCost

/-- RET (44_control.md R317): `pc <- Pop()`. -/
def returnFromCall (s : State) : State :=
  s.afterPop.setPc s.popValue

/-- RETI, the return from a dispatch (44_control.md R319): `master <- 1; pc <- Pop()`. -/
def returnFromInterrupt (s : State) : State :=
  returnFromCall (s.setMaster true)

end Sys2Proof.Machine
end

