-- ==== Sys2Proof/Machine/Flags.lean ====
section
/-! DEFINITION. The flag bits (10_state.md R34) and every computation that writes them: the helpers of 41_alu8.md R200–R206,
DAA, the 16-bit additions of 42_alu16.md, and the shifts of 43_rotate_shift_bit.md. Sums and differences are taken on
naturals or integers and narrowed at the end (00_scope.md R15). -/

namespace Sys2Proof.Machine

/-- The four flags. -/
structure FlagBits where
  z : Bool
  n : Bool
  h : Bool
  c : Bool
  deriving DecidableEq, Repr

/-- The byte `f` of four flags: Z = 7, N = 6, H = 5, C = 4, low nibble 0 (10_state.md R33, R34). -/
def packFlags (fl : FlagBits) : Byte :=
  (if fl.z then 0x80 else 0x00) ||| (if fl.n then 0x40 else 0x00) |||
    (if fl.h then 0x20 else 0x00) ||| (if fl.c then 0x10 else 0x00)

/-- The four flags of a byte `f` (10_state.md R34). -/
def flagsOfByte (f : Byte) : FlagBits where
  z := f.getLsbD 7
  n := f.getLsbD 6
  h := f.getLsbD 5
  c := f.getLsbD 4

/-- The flags Z, N, H, C. -/
def State.flags (s : State) : FlagBits := flagsOfByte s.regs.f

/-- Writing all four flags. A flag that a rule leaves alone is passed with its old value (10_state.md R35). -/
def State.setFlags (s : State) (fl : FlagBits) : State := s.setF (packFlags fl)

/-- An 8-bit result with the flags it leaves. -/
structure AluOut where
  result : Byte
  flags : FlagBits
  deriving DecidableEq, Repr

/-- `add8(a, v, cin)` (41_alu8.md R200). -/
def add8 (a v : Byte) (cin : Bool) : AluOut :=
  let sum := a.toNat + v.toNat + cin.toNat
  let result := BitVec.ofNat 8 sum
  { result := result
    flags :=
      { z := result = 0
        n := false
        h := (a &&& 0x0F).toNat + (v &&& 0x0F).toNat + cin.toNat > 0x0F
        c := sum > 0xFF } }

/-- `sub8(a, v, bin)` (41_alu8.md R201). -/
def sub8 (a v : Byte) (bin : Bool) : AluOut :=
  let diff : Int := (a.toNat : Int) - v.toNat - bin.toNat
  let result := BitVec.ofInt 8 diff
  { result := result
    flags :=
      { z := result = 0
        n := true
        h := (a &&& 0x0F).toNat < (v &&& 0x0F).toNat + bin.toNat
        c := a.toNat < v.toNat + bin.toNat } }

/-- `and8(a, v)` (41_alu8.md R202). -/
def and8 (a v : Byte) : AluOut :=
  let result := a &&& v
  { result := result, flags := { z := result = 0, n := false, h := true, c := false } }

/-- `xor8(a, v)` (41_alu8.md R203). -/
def xor8 (a v : Byte) : AluOut :=
  let result := a ^^^ v
  { result := result, flags := { z := result = 0, n := false, h := false, c := false } }

/-- `or8(a, v)` (41_alu8.md R203). -/
def or8 (a v : Byte) : AluOut :=
  let result := a ||| v
  { result := result, flags := { z := result = 0, n := false, h := false, c := false } }

/-- `cp8(a, v)` (41_alu8.md R204): the flags of a subtraction, the accumulator as it was. -/
def cp8 (a v : Byte) : AluOut :=
  { result := a, flags := (sub8 a v false).flags }

/-- An accumulator operation with the carry flag as it was before the instruction (41_alu8.md R207–R230). -/
def aluOut (op : AluOp) (a v : Byte) (carry : Bool) : AluOut :=
  match op with
  | .add => add8 a v false
  | .adc => add8 a v carry
  | .sub => sub8 a v false
  | .sbc => sub8 a v carry
  | .and => and8 a v
  | .xor => xor8 a v
  | .or => or8 a v
  | .cp => cp8 a v

/-- `inc8(v)` (41_alu8.md R205); C is not written, so it is passed through. -/
def inc8 (v : Byte) (carry : Bool) : AluOut :=
  let result := v + 1
  { result := result, flags := { z := result = 0, n := false, h := v &&& 0x0F = 0x0F, c := carry } }

/-- `dec8(v)` (41_alu8.md R206, 90_conflicts.md C1); C is not written, so it is passed through. -/
def dec8 (v : Byte) (carry : Bool) : AluOut :=
  let result := v - 1
  { result := result, flags := { z := result = 0, n := true, h := v &&& 0x0F = 0x00, c := carry } }

/-- DAA (41_alu8.md R235). -/
def daa (a : Byte) (fl : FlagBits) : AluOut :=
  if fl.n then
    let a1 := if fl.c then a - 0x60 else a
    let a2 := if fl.h then a1 - 0x06 else a1
    { result := a2, flags := { z := a2 = 0, n := true, h := false, c := fl.c } }
  else
    let high := fl.c || decide (a.toNat > 0x99)
    let a1 := if high then a + 0x60 else a
    let a2 := if fl.h || decide ((a1 &&& 0x0F).toNat > 0x09) then a1 + 0x06 else a1
    { result := a2, flags := { z := a2 = 0, n := false, h := false, c := high } }

/-- CPL (41_alu8.md R236). -/
def cpl (a : Byte) (fl : FlagBits) : AluOut :=
  { result := ~~~a, flags := { fl with n := true, h := true } }

/-- SCF (41_alu8.md R237). -/
def scfFlags (fl : FlagBits) : FlagBits :=
  { fl with n := false, h := false, c := true }

/-- CCF (41_alu8.md R238). -/
def ccfFlags (fl : FlagBits) : FlagBits :=
  { fl with n := false, h := false, c := !fl.c }

/-- The flags of ADD HL,rr: carries out of bits 11 and 15, Z as it was (42_alu16.md R252). -/
def addHlFlags (hl v : Word) (fl : FlagBits) : FlagBits :=
  { z := fl.z
    n := false
    h := (hl &&& 0x0FFF).toNat + (v &&& 0x0FFF).toNat > 0x0FFF
    c := hl.toNat + v.toNat > 0xFFFF }

/-- The flags of ADD SP,e and LD HL,SP+e, on the unsigned low byte (42_alu16.md R253). -/
def addSpFlags (sp : Word) (e : Byte) : FlagBits :=
  { z := false
    n := false
    h := (sp &&& 0x0F).toNat + (e &&& 0x0F).toNat > 0x0F
    c := (sp &&& 0xFF).toNat + e.toNat > 0xFF }

/-- A shifted byte and the carry it leaves. -/
structure ShiftOut where
  result : Byte
  carry : Bool
  deriving DecidableEq, Repr

/-- Bit `i` set to `b`, the others 0. -/
def bitAt (b : Bool) (i : Nat) : Byte :=
  if b then 1 <<< i else 0

/-- The CB rotates, shifts and SWAP (43_rotate_shift_bit.md R275–R290), with the carry flag as it was. -/
def shiftOut (op : ShiftOp) (v : Byte) (carry : Bool) : ShiftOut :=
  match op with
  | .rlc => { result := (v <<< 1) ||| bitAt (v.getLsbD 7) 0, carry := v.getLsbD 7 }
  | .rrc => { result := (v >>> 1) ||| bitAt (v.getLsbD 0) 7, carry := v.getLsbD 0 }
  | .rl => { result := (v <<< 1) ||| bitAt carry 0, carry := v.getLsbD 7 }
  | .rr => { result := (v >>> 1) ||| bitAt carry 7, carry := v.getLsbD 0 }
  | .sla => { result := v <<< 1, carry := v.getLsbD 7 }
  | .sra => { result := (v >>> 1) ||| (v &&& 0x80), carry := v.getLsbD 0 }
  | .swap => { result := (v <<< 4) ||| (v >>> 4), carry := false }
  | .srl => { result := v >>> 1, carry := v.getLsbD 0 }

/-- The flags of a CB shift: Z from the result, N and H clear (43_rotate_shift_bit.md section 3). -/
def shiftFlags (o : ShiftOut) : FlagBits :=
  { z := o.result = 0, n := false, h := false, c := o.carry }

/-- The flags of an accumulator rotate: Z always clear (43_rotate_shift_bit.md R270–R273). -/
def rotateAFlags (o : ShiftOut) : FlagBits :=
  { z := false, n := false, h := false, c := o.carry }

/-- The flags of BIT: Z is the complement of the bit, N = 0, H = 1, C as it was (43_rotate_shift_bit.md R291). -/
def testBitFlags (v : Byte) (b : Fin 8) (fl : FlagBits) : FlagBits :=
  { z := !v.getLsbD b, n := false, h := true, c := fl.c }

end Sys2Proof.Machine
end

