-- ==== Sys2Proof/Machine/Operands.lean ====
section
/-! DEFINITION. The operand forms (30_encoding.md R122–R125): reading and writing an 8-bit operand, the pair views, the
condition test, the high-page address. -/

namespace Sys2Proof.Machine

/-- Reading a pair (10_state.md R31, R32). -/
def State.pair (s : State) : Pair → Word
  | .bc => wordOfBytes s.regs.c s.regs.b
  | .de => wordOfBytes s.regs.e s.regs.d
  | .hl => wordOfBytes s.regs.l s.regs.h
  | .sp => s.regs.sp

/-- Writing a pair: both halves in one step (10_state.md R32). -/
def State.setPair (s : State) (p : Pair) (v : Word) : State :=
  match p with
  | .bc => { s with regs := { s.regs with b := hiByte v, c := loByte v } }
  | .de => { s with regs := { s.regs with d := hiByte v, e := loByte v } }
  | .hl => { s with regs := { s.regs with h := hiByte v, l := loByte v } }
  | .sp => s.setSp v

/-- Reading a pair of PUSH (40_load.md R182). -/
def State.stackPair (s : State) : StackPair → Word
  | .bc => s.pair .bc
  | .de => s.pair .de
  | .hl => s.pair .hl
  | .af => wordOfBytes s.regs.f s.regs.a

/-- Writing a pair of POP; `f` keeps a zero low nibble (40_load.md R183, R184). -/
def State.setStackPair (s : State) (p : StackPair) (v : Word) : State :=
  match p with
  | .bc => s.setPair .bc v
  | .de => s.setPair .de v
  | .hl => s.setPair .hl v
  | .af => (s.setA (hiByte v)).setF (loByte v)

/-- The value of an 8-bit operand: a register, or `MemRead(hl, 1)` (30_encoding.md R124). -/
def State.operand (s : State) : Operand8 → Byte
  | .b => s.regs.b
  | .c => s.regs.c
  | .d => s.regs.d
  | .e => s.regs.e
  | .h => s.regs.h
  | .l => s.regs.l
  | .indHl => s.readByte (s.pair .hl)
  | .a => s.regs.a

/-- The state after reading an 8-bit operand. -/
def State.afterOperand (s : State) : Operand8 → State
  | .b => s
  | .c => s
  | .d => s
  | .e => s
  | .h => s
  | .l => s
  | .indHl => s.afterRead (s.pair .hl)
  | .a => s

/-- Writing an 8-bit operand: a register, or `MemWrite(hl, 1, v)` (30_encoding.md R124). -/
def State.writeOperand (s : State) (o : Operand8) (v : Byte) : State :=
  match o with
  | .b => { s with regs := { s.regs with b := v } }
  | .c => { s with regs := { s.regs with c := v } }
  | .d => { s with regs := { s.regs with d := v } }
  | .e => { s with regs := { s.regs with e := v } }
  | .h => { s with regs := { s.regs with h := v } }
  | .l => { s with regs := { s.regs with l := v } }
  | .indHl => s.writeByte (s.pair .hl) v
  | .a => s.setA v

/-- `cond(cc)` (30_encoding.md R125). -/
def State.holds (s : State) : Cond → Bool
  | .nz => !s.flags.z
  | .z => s.flags.z
  | .nc => !s.flags.c
  | .c => s.flags.c

/-- `0xFF00 + n` of LDH and LD (C) (40_load.md R171–R174). -/
def highPage (n : Byte) : Word :=
  wordOfBytes n 0xFF

end Sys2Proof.Machine
end

