-- ==== Sys2Proof/Machine/Alu16.lean ====
section
/-! DEFINITION. 16-bit arithmetic (42_alu16.md): the shared operations, then one meaning per instruction. A meaning runs with `pc`
past the whole instruction and leaves out the base cost, which the step adds (30_encoding.md R127, R130). -/

namespace Sys2Proof.Machine

/-- INC rr (R250). -/
def incPair (p : Pair) (s : State) : State :=
  s.setPair p (s.pair p + 1)

/-- DEC rr (R251). -/
def decPair (p : Pair) (s : State) : State :=
  s.setPair p (s.pair p - 1)

/-- ADD HL,rr (R252). -/
def addHlPair (p : Pair) (s : State) : State :=
  (s.setFlags (addHlFlags (s.pair .hl) (s.pair p) s.flags)).setPair .hl (s.pair .hl + s.pair p)

/-- ADD SP,e (R253). -/
def addSpOffset (e : Byte) (s : State) : State :=
  (s.setFlags (addSpFlags s.regs.sp e)).setSp (s.regs.sp + signExtend16 e)

/-- LD HL,SP+e (R254). -/
def loadHlSpOffset (e : Byte) (s : State) : State :=
  (s.setFlags (addSpFlags s.regs.sp e)).setPair .hl (s.regs.sp + signExtend16 e)

/-- INC BC (R250). -/
def execIncBc (s : State) : Host.Outcome State Fault Refusal := .next (incPair .bc s)

/-- ADD HL,BC (R252). -/
def execAddHlBc (s : State) : Host.Outcome State Fault Refusal := .next (addHlPair .bc s)

/-- DEC BC (R251). -/
def execDecBc (s : State) : Host.Outcome State Fault Refusal := .next (decPair .bc s)

/-- INC DE (R250). -/
def execIncDe (s : State) : Host.Outcome State Fault Refusal := .next (incPair .de s)

/-- ADD HL,DE (R252). -/
def execAddHlDe (s : State) : Host.Outcome State Fault Refusal := .next (addHlPair .de s)

/-- DEC DE (R251). -/
def execDecDe (s : State) : Host.Outcome State Fault Refusal := .next (decPair .de s)

/-- INC HL (R250). -/
def execIncHl (s : State) : Host.Outcome State Fault Refusal := .next (incPair .hl s)

/-- ADD HL,HL (R252). -/
def execAddHlHl (s : State) : Host.Outcome State Fault Refusal := .next (addHlPair .hl s)

/-- DEC HL (R251). -/
def execDecHl (s : State) : Host.Outcome State Fault Refusal := .next (decPair .hl s)

/-- INC SP (R250). -/
def execIncSp (s : State) : Host.Outcome State Fault Refusal := .next (incPair .sp s)

/-- ADD HL,SP (R252). -/
def execAddHlSp (s : State) : Host.Outcome State Fault Refusal := .next (addHlPair .sp s)

/-- DEC SP (R251). -/
def execDecSp (s : State) : Host.Outcome State Fault Refusal := .next (decPair .sp s)

/-- ADD SP,e (R253). -/
def execAddSpE (e : Byte) (s : State) : Host.Outcome State Fault Refusal := .next (addSpOffset e s)

/-- LD HL,SP+e (R254). -/
def execLdHlSpE (e : Byte) (s : State) : Host.Outcome State Fault Refusal := .next (loadHlSpOffset e s)

end Sys2Proof.Machine
end

