-- ==== Sys2Proof/Machine/Alu8.lean ====
section
/-! DEFINITION. 8-bit arithmetic and logic (41_alu8.md): the shared operations, then one meaning per instruction. A meaning runs with `pc`
past the whole instruction and leaves out the base cost, which the step adds (30_encoding.md R127, R130). -/

namespace Sys2Proof.Machine

/-- An accumulator operation on a value: result and flags, the carry read before any flag is written (R200–R204). -/
def alu (op : AluOp) (v : Byte) (s : State) : State :=
  let out := aluOut op s.regs.a v s.flags.c
  (s.setA out.result).setFlags out.flags

/-- An accumulator operation on a register or (HL). -/
def aluOperand (op : AluOp) (o : Operand8) (s : State) : State :=
  alu op (s.operand o) (s.afterOperand o)

/-- INC r and INC (HL): read, then write (R231, R232). -/
def incOperand (o : Operand8) (s : State) : State :=
  let out := inc8 (s.operand o) s.flags.c
  ((s.afterOperand o).setFlags out.flags).writeOperand o out.result

/-- DEC r and DEC (HL): read, then write (R233, R234). -/
def decOperand (o : Operand8) (s : State) : State :=
  let out := dec8 (s.operand o) s.flags.c
  ((s.afterOperand o).setFlags out.flags).writeOperand o out.result

/-- DAA (R235). -/
def decimalAdjust (s : State) : State :=
  let out := daa s.regs.a s.flags
  (s.setA out.result).setFlags out.flags

/-- CPL (R236). -/
def complementA (s : State) : State :=
  let out := cpl s.regs.a s.flags
  (s.setA out.result).setFlags out.flags

/-- SCF (R237). -/
def setCarry (s : State) : State :=
  s.setFlags (scfFlags s.flags)

/-- CCF (R238). -/
def complementCarry (s : State) : State :=
  s.setFlags (ccfFlags s.flags)

/-- INC B (R231). -/
def execIncB (s : State) : Host.Outcome State Fault Refusal := .next (incOperand .b s)

/-- DEC B (R233). -/
def execDecB (s : State) : Host.Outcome State Fault Refusal := .next (decOperand .b s)

/-- INC C (R231). -/
def execIncC (s : State) : Host.Outcome State Fault Refusal := .next (incOperand .c s)

/-- DEC C (R233). -/
def execDecC (s : State) : Host.Outcome State Fault Refusal := .next (decOperand .c s)

/-- INC D (R231). -/
def execIncD (s : State) : Host.Outcome State Fault Refusal := .next (incOperand .d s)

/-- DEC D (R233). -/
def execDecD (s : State) : Host.Outcome State Fault Refusal := .next (decOperand .d s)

/-- INC E (R231). -/
def execIncE (s : State) : Host.Outcome State Fault Refusal := .next (incOperand .e s)

/-- DEC E (R233). -/
def execDecE (s : State) : Host.Outcome State Fault Refusal := .next (decOperand .e s)

/-- INC H (R231). -/
def execIncH (s : State) : Host.Outcome State Fault Refusal := .next (incOperand .h s)

/-- DEC H (R233). -/
def execDecH (s : State) : Host.Outcome State Fault Refusal := .next (decOperand .h s)

/-- DAA (R235). -/
def execDaa (s : State) : Host.Outcome State Fault Refusal := .next (decimalAdjust s)

/-- INC L (R231). -/
def execIncL (s : State) : Host.Outcome State Fault Refusal := .next (incOperand .l s)

/-- DEC L (R233). -/
def execDecL (s : State) : Host.Outcome State Fault Refusal := .next (decOperand .l s)

/-- CPL (R236). -/
def execCpl (s : State) : Host.Outcome State Fault Refusal := .next (complementA s)

/-- INC (HL) (R232). -/
def execIncIndHl (s : State) : Host.Outcome State Fault Refusal := .next (incOperand .indHl s)

/-- DEC (HL) (R234). -/
def execDecIndHl (s : State) : Host.Outcome State Fault Refusal := .next (decOperand .indHl s)

/-- SCF (R237). -/
def execScf (s : State) : Host.Outcome State Fault Refusal := .next (setCarry s)

/-- INC A (R231). -/
def execIncA (s : State) : Host.Outcome State Fault Refusal := .next (incOperand .a s)

/-- DEC A (R233). -/
def execDecA (s : State) : Host.Outcome State Fault Refusal := .next (decOperand .a s)

/-- CCF (R238). -/
def execCcf (s : State) : Host.Outcome State Fault Refusal := .next (complementCarry s)

/-- ADD A,B (R207). -/
def execAddAB (s : State) : Host.Outcome State Fault Refusal := .next (aluOperand .add .b s)

/-- ADD A,C (R207). -/
def execAddAC (s : State) : Host.Outcome State Fault Refusal := .next (aluOperand .add .c s)

/-- ADD A,D (R207). -/
def execAddAD (s : State) : Host.Outcome State Fault Refusal := .next (aluOperand .add .d s)

/-- ADD A,E (R207). -/
def execAddAE (s : State) : Host.Outcome State Fault Refusal := .next (aluOperand .add .e s)

/-- ADD A,H (R207). -/
def execAddAH (s : State) : Host.Outcome State Fault Refusal := .next (aluOperand .add .h s)

/-- ADD A,L (R207). -/
def execAddAL (s : State) : Host.Outcome State Fault Refusal := .next (aluOperand .add .l s)

/-- ADD A,(HL) (R208). -/
def execAddAIndHl (s : State) : Host.Outcome State Fault Refusal := .next (aluOperand .add .indHl s)

/-- ADD A,A (R207). -/
def execAddAA (s : State) : Host.Outcome State Fault Refusal := .next (aluOperand .add .a s)

/-- ADC A,B (R210). -/
def execAdcAB (s : State) : Host.Outcome State Fault Refusal := .next (aluOperand .adc .b s)

/-- ADC A,C (R210). -/
def execAdcAC (s : State) : Host.Outcome State Fault Refusal := .next (aluOperand .adc .c s)

/-- ADC A,D (R210). -/
def execAdcAD (s : State) : Host.Outcome State Fault Refusal := .next (aluOperand .adc .d s)

/-- ADC A,E (R210). -/
def execAdcAE (s : State) : Host.Outcome State Fault Refusal := .next (aluOperand .adc .e s)

/-- ADC A,H (R210). -/
def execAdcAH (s : State) : Host.Outcome State Fault Refusal := .next (aluOperand .adc .h s)

/-- ADC A,L (R210). -/
def execAdcAL (s : State) : Host.Outcome State Fault Refusal := .next (aluOperand .adc .l s)

/-- ADC A,(HL) (R211). -/
def execAdcAIndHl (s : State) : Host.Outcome State Fault Refusal := .next (aluOperand .adc .indHl s)

/-- ADC A,A (R210). -/
def execAdcAA (s : State) : Host.Outcome State Fault Refusal := .next (aluOperand .adc .a s)

/-- SUB B (R213). -/
def execSubB (s : State) : Host.Outcome State Fault Refusal := .next (aluOperand .sub .b s)

/-- SUB C (R213). -/
def execSubC (s : State) : Host.Outcome State Fault Refusal := .next (aluOperand .sub .c s)

/-- SUB D (R213). -/
def execSubD (s : State) : Host.Outcome State Fault Refusal := .next (aluOperand .sub .d s)

/-- SUB E (R213). -/
def execSubE (s : State) : Host.Outcome State Fault Refusal := .next (aluOperand .sub .e s)

/-- SUB H (R213). -/
def execSubH (s : State) : Host.Outcome State Fault Refusal := .next (aluOperand .sub .h s)

/-- SUB L (R213). -/
def execSubL (s : State) : Host.Outcome State Fault Refusal := .next (aluOperand .sub .l s)

/-- SUB (HL) (R214). -/
def execSubIndHl (s : State) : Host.Outcome State Fault Refusal := .next (aluOperand .sub .indHl s)

/-- SUB A (R213). -/
def execSubA (s : State) : Host.Outcome State Fault Refusal := .next (aluOperand .sub .a s)

/-- SBC A,B (R216). -/
def execSbcAB (s : State) : Host.Outcome State Fault Refusal := .next (aluOperand .sbc .b s)

/-- SBC A,C (R216). -/
def execSbcAC (s : State) : Host.Outcome State Fault Refusal := .next (aluOperand .sbc .c s)

/-- SBC A,D (R216). -/
def execSbcAD (s : State) : Host.Outcome State Fault Refusal := .next (aluOperand .sbc .d s)

/-- SBC A,E (R216). -/
def execSbcAE (s : State) : Host.Outcome State Fault Refusal := .next (aluOperand .sbc .e s)

/-- SBC A,H (R216). -/
def execSbcAH (s : State) : Host.Outcome State Fault Refusal := .next (aluOperand .sbc .h s)

/-- SBC A,L (R216). -/
def execSbcAL (s : State) : Host.Outcome State Fault Refusal := .next (aluOperand .sbc .l s)

/-- SBC A,(HL) (R217). -/
def execSbcAIndHl (s : State) : Host.Outcome State Fault Refusal := .next (aluOperand .sbc .indHl s)

/-- SBC A,A (R216). -/
def execSbcAA (s : State) : Host.Outcome State Fault Refusal := .next (aluOperand .sbc .a s)

/-- AND B (R219). -/
def execAndB (s : State) : Host.Outcome State Fault Refusal := .next (aluOperand .and .b s)

/-- AND C (R219). -/
def execAndC (s : State) : Host.Outcome State Fault Refusal := .next (aluOperand .and .c s)

/-- AND D (R219). -/
def execAndD (s : State) : Host.Outcome State Fault Refusal := .next (aluOperand .and .d s)

/-- AND E (R219). -/
def execAndE (s : State) : Host.Outcome State Fault Refusal := .next (aluOperand .and .e s)

/-- AND H (R219). -/
def execAndH (s : State) : Host.Outcome State Fault Refusal := .next (aluOperand .and .h s)

/-- AND L (R219). -/
def execAndL (s : State) : Host.Outcome State Fault Refusal := .next (aluOperand .and .l s)

/-- AND (HL) (R220). -/
def execAndIndHl (s : State) : Host.Outcome State Fault Refusal := .next (aluOperand .and .indHl s)

/-- AND A (R219). -/
def execAndA (s : State) : Host.Outcome State Fault Refusal := .next (aluOperand .and .a s)

/-- XOR B (R222). -/
def execXorB (s : State) : Host.Outcome State Fault Refusal := .next (aluOperand .xor .b s)

/-- XOR C (R222). -/
def execXorC (s : State) : Host.Outcome State Fault Refusal := .next (aluOperand .xor .c s)

/-- XOR D (R222). -/
def execXorD (s : State) : Host.Outcome State Fault Refusal := .next (aluOperand .xor .d s)

/-- XOR E (R222). -/
def execXorE (s : State) : Host.Outcome State Fault Refusal := .next (aluOperand .xor .e s)

/-- XOR H (R222). -/
def execXorH (s : State) : Host.Outcome State Fault Refusal := .next (aluOperand .xor .h s)

/-- XOR L (R222). -/
def execXorL (s : State) : Host.Outcome State Fault Refusal := .next (aluOperand .xor .l s)

/-- XOR (HL) (R223). -/
def execXorIndHl (s : State) : Host.Outcome State Fault Refusal := .next (aluOperand .xor .indHl s)

/-- XOR A (R222). -/
def execXorA (s : State) : Host.Outcome State Fault Refusal := .next (aluOperand .xor .a s)

/-- OR B (R225). -/
def execOrB (s : State) : Host.Outcome State Fault Refusal := .next (aluOperand .or .b s)

/-- OR C (R225). -/
def execOrC (s : State) : Host.Outcome State Fault Refusal := .next (aluOperand .or .c s)

/-- OR D (R225). -/
def execOrD (s : State) : Host.Outcome State Fault Refusal := .next (aluOperand .or .d s)

/-- OR E (R225). -/
def execOrE (s : State) : Host.Outcome State Fault Refusal := .next (aluOperand .or .e s)

/-- OR H (R225). -/
def execOrH (s : State) : Host.Outcome State Fault Refusal := .next (aluOperand .or .h s)

/-- OR L (R225). -/
def execOrL (s : State) : Host.Outcome State Fault Refusal := .next (aluOperand .or .l s)

/-- OR (HL) (R226). -/
def execOrIndHl (s : State) : Host.Outcome State Fault Refusal := .next (aluOperand .or .indHl s)

/-- OR A (R225). -/
def execOrA (s : State) : Host.Outcome State Fault Refusal := .next (aluOperand .or .a s)

/-- CP B (R228). -/
def execCpB (s : State) : Host.Outcome State Fault Refusal := .next (aluOperand .cp .b s)

/-- CP C (R228). -/
def execCpC (s : State) : Host.Outcome State Fault Refusal := .next (aluOperand .cp .c s)

/-- CP D (R228). -/
def execCpD (s : State) : Host.Outcome State Fault Refusal := .next (aluOperand .cp .d s)

/-- CP E (R228). -/
def execCpE (s : State) : Host.Outcome State Fault Refusal := .next (aluOperand .cp .e s)

/-- CP H (R228). -/
def execCpH (s : State) : Host.Outcome State Fault Refusal := .next (aluOperand .cp .h s)

/-- CP L (R228). -/
def execCpL (s : State) : Host.Outcome State Fault Refusal := .next (aluOperand .cp .l s)

/-- CP (HL) (R229). -/
def execCpIndHl (s : State) : Host.Outcome State Fault Refusal := .next (aluOperand .cp .indHl s)

/-- CP A (R228). -/
def execCpA (s : State) : Host.Outcome State Fault Refusal := .next (aluOperand .cp .a s)

/-- ADD A,n (R209). -/
def execAddAN (n : Byte) (s : State) : Host.Outcome State Fault Refusal := .next (alu .add n s)

/-- ADC A,n (R212). -/
def execAdcAN (n : Byte) (s : State) : Host.Outcome State Fault Refusal := .next (alu .adc n s)

/-- SUB n (R215). -/
def execSubN (n : Byte) (s : State) : Host.Outcome State Fault Refusal := .next (alu .sub n s)

/-- SBC A,n (R218). -/
def execSbcAN (n : Byte) (s : State) : Host.Outcome State Fault Refusal := .next (alu .sbc n s)

/-- AND n (R221). -/
def execAndN (n : Byte) (s : State) : Host.Outcome State Fault Refusal := .next (alu .and n s)

/-- XOR n (R224). -/
def execXorN (n : Byte) (s : State) : Host.Outcome State Fault Refusal := .next (alu .xor n s)

/-- OR n (R227). -/
def execOrN (n : Byte) (s : State) : Host.Outcome State Fault Refusal := .next (alu .or n s)

/-- CP n (R230). -/
def execCpN (n : Byte) (s : State) : Host.Outcome State Fault Refusal := .next (alu .cp n s)

end Sys2Proof.Machine
end

