-- ==== Sys2Proof/Machine/Cb.lean ====
section
/-! DEFINITION. The CB rotates, shifts and bit operations, and the prefix row (43_rotate_shift_bit.md): the shared operations, then one meaning per instruction. A meaning runs with `pc`
past the whole instruction and leaves out the base cost, which the step adds (30_encoding.md R127, R130). -/

namespace Sys2Proof.Machine

/-- A CB rotate, shift or SWAP on r or (HL): one read, then one write (R275–R290). -/
def shiftOperand (op : ShiftOp) (o : Operand8) (s : State) : State :=
  let out := shiftOut op (s.operand o) s.flags.c
  ((s.afterOperand o).setFlags (shiftFlags out)).writeOperand o out.result

/-- BIT b: only the read and the flags (R291, R292). -/
def testBit (b : Fin 8) (o : Operand8) (s : State) : State :=
  (s.afterOperand o).setFlags (testBitFlags (s.operand o) b s.flags)

/-- RES b: the write happens even if nothing changes (R293, R294). -/
def resetBit (b : Fin 8) (o : Operand8) (s : State) : State :=
  (s.afterOperand o).writeOperand o (s.operand o &&& ~~~(1#8 <<< b.val))

/-- SET b: the write happens even if nothing changes (R295, R296). -/
def setBit (b : Fin 8) (o : Operand8) (s : State) : State :=
  (s.afterOperand o).writeOperand o (s.operand o ||| (1#8 <<< b.val))

/-- `CBop(n)` of R274, by the fields x, y, z of the sub-opcode (30_encoding.md R123, R134). -/
def cbOperation (n : Byte) (s : State) : State :=
  let y := n.toNat / 8 % 8
  let o := operand8OfCode (n.toNat % 8)
  match n.toNat / 64 with
  | 0 => shiftOperand (shiftOpOfCode y) o s
  | 1 => testBit (Fin.ofNat 8 y) o s
  | 2 => resetBit (Fin.ofNat 8 y) o s
  | _ => setBit (Fin.ofNat 8 y) o s

/-- PREFIX CB (R274). -/
def execPrefixCb (n : Byte) (s : State) : Host.Outcome State Fault Refusal := .next (cbOperation n s)

/-- RLC B (R275). -/
def execRlcB (s : State) : Host.Outcome State Fault Refusal := .next (shiftOperand .rlc .b s)

/-- RLC C (R275). -/
def execRlcC (s : State) : Host.Outcome State Fault Refusal := .next (shiftOperand .rlc .c s)

/-- RLC D (R275). -/
def execRlcD (s : State) : Host.Outcome State Fault Refusal := .next (shiftOperand .rlc .d s)

/-- RLC E (R275). -/
def execRlcE (s : State) : Host.Outcome State Fault Refusal := .next (shiftOperand .rlc .e s)

/-- RLC H (R275). -/
def execRlcH (s : State) : Host.Outcome State Fault Refusal := .next (shiftOperand .rlc .h s)

/-- RLC L (R275). -/
def execRlcL (s : State) : Host.Outcome State Fault Refusal := .next (shiftOperand .rlc .l s)

/-- RLC (HL) (R276). -/
def execRlcIndHl (s : State) : Host.Outcome State Fault Refusal := .next (shiftOperand .rlc .indHl s)

/-- RLC A (R275). -/
def execRlcA (s : State) : Host.Outcome State Fault Refusal := .next (shiftOperand .rlc .a s)

/-- RRC B (R277). -/
def execRrcB (s : State) : Host.Outcome State Fault Refusal := .next (shiftOperand .rrc .b s)

/-- RRC C (R277). -/
def execRrcC (s : State) : Host.Outcome State Fault Refusal := .next (shiftOperand .rrc .c s)

/-- RRC D (R277). -/
def execRrcD (s : State) : Host.Outcome State Fault Refusal := .next (shiftOperand .rrc .d s)

/-- RRC E (R277). -/
def execRrcE (s : State) : Host.Outcome State Fault Refusal := .next (shiftOperand .rrc .e s)

/-- RRC H (R277). -/
def execRrcH (s : State) : Host.Outcome State Fault Refusal := .next (shiftOperand .rrc .h s)

/-- RRC L (R277). -/
def execRrcL (s : State) : Host.Outcome State Fault Refusal := .next (shiftOperand .rrc .l s)

/-- RRC (HL) (R278). -/
def execRrcIndHl (s : State) : Host.Outcome State Fault Refusal := .next (shiftOperand .rrc .indHl s)

/-- RRC A (R277). -/
def execRrcA (s : State) : Host.Outcome State Fault Refusal := .next (shiftOperand .rrc .a s)

/-- RL B (R279). -/
def execRlB (s : State) : Host.Outcome State Fault Refusal := .next (shiftOperand .rl .b s)

/-- RL C (R279). -/
def execRlC (s : State) : Host.Outcome State Fault Refusal := .next (shiftOperand .rl .c s)

/-- RL D (R279). -/
def execRlD (s : State) : Host.Outcome State Fault Refusal := .next (shiftOperand .rl .d s)

/-- RL E (R279). -/
def execRlE (s : State) : Host.Outcome State Fault Refusal := .next (shiftOperand .rl .e s)

/-- RL H (R279). -/
def execRlH (s : State) : Host.Outcome State Fault Refusal := .next (shiftOperand .rl .h s)

/-- RL L (R279). -/
def execRlL (s : State) : Host.Outcome State Fault Refusal := .next (shiftOperand .rl .l s)

/-- RL (HL) (R280). -/
def execRlIndHl (s : State) : Host.Outcome State Fault Refusal := .next (shiftOperand .rl .indHl s)

/-- RL A (R279). -/
def execRlA (s : State) : Host.Outcome State Fault Refusal := .next (shiftOperand .rl .a s)

/-- RR B (R281). -/
def execRrB (s : State) : Host.Outcome State Fault Refusal := .next (shiftOperand .rr .b s)

/-- RR C (R281). -/
def execRrC (s : State) : Host.Outcome State Fault Refusal := .next (shiftOperand .rr .c s)

/-- RR D (R281). -/
def execRrD (s : State) : Host.Outcome State Fault Refusal := .next (shiftOperand .rr .d s)

/-- RR E (R281). -/
def execRrE (s : State) : Host.Outcome State Fault Refusal := .next (shiftOperand .rr .e s)

/-- RR H (R281). -/
def execRrH (s : State) : Host.Outcome State Fault Refusal := .next (shiftOperand .rr .h s)

/-- RR L (R281). -/
def execRrL (s : State) : Host.Outcome State Fault Refusal := .next (shiftOperand .rr .l s)

/-- RR (HL) (R282). -/
def execRrIndHl (s : State) : Host.Outcome State Fault Refusal := .next (shiftOperand .rr .indHl s)

/-- RR A (R281). -/
def execRrA (s : State) : Host.Outcome State Fault Refusal := .next (shiftOperand .rr .a s)

/-- SLA B (R283). -/
def execSlaB (s : State) : Host.Outcome State Fault Refusal := .next (shiftOperand .sla .b s)

/-- SLA C (R283). -/
def execSlaC (s : State) : Host.Outcome State Fault Refusal := .next (shiftOperand .sla .c s)

/-- SLA D (R283). -/
def execSlaD (s : State) : Host.Outcome State Fault Refusal := .next (shiftOperand .sla .d s)

/-- SLA E (R283). -/
def execSlaE (s : State) : Host.Outcome State Fault Refusal := .next (shiftOperand .sla .e s)

/-- SLA H (R283). -/
def execSlaH (s : State) : Host.Outcome State Fault Refusal := .next (shiftOperand .sla .h s)

/-- SLA L (R283). -/
def execSlaL (s : State) : Host.Outcome State Fault Refusal := .next (shiftOperand .sla .l s)

/-- SLA (HL) (R284). -/
def execSlaIndHl (s : State) : Host.Outcome State Fault Refusal := .next (shiftOperand .sla .indHl s)

/-- SLA A (R283). -/
def execSlaA (s : State) : Host.Outcome State Fault Refusal := .next (shiftOperand .sla .a s)

/-- SRA B (R285). -/
def execSraB (s : State) : Host.Outcome State Fault Refusal := .next (shiftOperand .sra .b s)

/-- SRA C (R285). -/
def execSraC (s : State) : Host.Outcome State Fault Refusal := .next (shiftOperand .sra .c s)

/-- SRA D (R285). -/
def execSraD (s : State) : Host.Outcome State Fault Refusal := .next (shiftOperand .sra .d s)

/-- SRA E (R285). -/
def execSraE (s : State) : Host.Outcome State Fault Refusal := .next (shiftOperand .sra .e s)

/-- SRA H (R285). -/
def execSraH (s : State) : Host.Outcome State Fault Refusal := .next (shiftOperand .sra .h s)

/-- SRA L (R285). -/
def execSraL (s : State) : Host.Outcome State Fault Refusal := .next (shiftOperand .sra .l s)

/-- SRA (HL) (R286). -/
def execSraIndHl (s : State) : Host.Outcome State Fault Refusal := .next (shiftOperand .sra .indHl s)

/-- SRA A (R285). -/
def execSraA (s : State) : Host.Outcome State Fault Refusal := .next (shiftOperand .sra .a s)

/-- SWAP B (R287). -/
def execSwapB (s : State) : Host.Outcome State Fault Refusal := .next (shiftOperand .swap .b s)

/-- SWAP C (R287). -/
def execSwapC (s : State) : Host.Outcome State Fault Refusal := .next (shiftOperand .swap .c s)

/-- SWAP D (R287). -/
def execSwapD (s : State) : Host.Outcome State Fault Refusal := .next (shiftOperand .swap .d s)

/-- SWAP E (R287). -/
def execSwapE (s : State) : Host.Outcome State Fault Refusal := .next (shiftOperand .swap .e s)

/-- SWAP H (R287). -/
def execSwapH (s : State) : Host.Outcome State Fault Refusal := .next (shiftOperand .swap .h s)

/-- SWAP L (R287). -/
def execSwapL (s : State) : Host.Outcome State Fault Refusal := .next (shiftOperand .swap .l s)

/-- SWAP (HL) (R288). -/
def execSwapIndHl (s : State) : Host.Outcome State Fault Refusal := .next (shiftOperand .swap .indHl s)

/-- SWAP A (R287). -/
def execSwapA (s : State) : Host.Outcome State Fault Refusal := .next (shiftOperand .swap .a s)

/-- SRL B (R289). -/
def execSrlB (s : State) : Host.Outcome State Fault Refusal := .next (shiftOperand .srl .b s)

/-- SRL C (R289). -/
def execSrlC (s : State) : Host.Outcome State Fault Refusal := .next (shiftOperand .srl .c s)

/-- SRL D (R289). -/
def execSrlD (s : State) : Host.Outcome State Fault Refusal := .next (shiftOperand .srl .d s)

/-- SRL E (R289). -/
def execSrlE (s : State) : Host.Outcome State Fault Refusal := .next (shiftOperand .srl .e s)

/-- SRL H (R289). -/
def execSrlH (s : State) : Host.Outcome State Fault Refusal := .next (shiftOperand .srl .h s)

/-- SRL L (R289). -/
def execSrlL (s : State) : Host.Outcome State Fault Refusal := .next (shiftOperand .srl .l s)

/-- SRL (HL) (R290). -/
def execSrlIndHl (s : State) : Host.Outcome State Fault Refusal := .next (shiftOperand .srl .indHl s)

/-- SRL A (R289). -/
def execSrlA (s : State) : Host.Outcome State Fault Refusal := .next (shiftOperand .srl .a s)

/-- BIT 0,B (R291). -/
def execBit0B (s : State) : Host.Outcome State Fault Refusal := .next (testBit 0 .b s)

/-- BIT 0,C (R291). -/
def execBit0C (s : State) : Host.Outcome State Fault Refusal := .next (testBit 0 .c s)

/-- BIT 0,D (R291). -/
def execBit0D (s : State) : Host.Outcome State Fault Refusal := .next (testBit 0 .d s)

/-- BIT 0,E (R291). -/
def execBit0E (s : State) : Host.Outcome State Fault Refusal := .next (testBit 0 .e s)

/-- BIT 0,H (R291). -/
def execBit0H (s : State) : Host.Outcome State Fault Refusal := .next (testBit 0 .h s)

/-- BIT 0,L (R291). -/
def execBit0L (s : State) : Host.Outcome State Fault Refusal := .next (testBit 0 .l s)

/-- BIT 0,(HL) (R292). -/
def execBit0IndHl (s : State) : Host.Outcome State Fault Refusal := .next (testBit 0 .indHl s)

/-- BIT 0,A (R291). -/
def execBit0A (s : State) : Host.Outcome State Fault Refusal := .next (testBit 0 .a s)

/-- BIT 1,B (R291). -/
def execBit1B (s : State) : Host.Outcome State Fault Refusal := .next (testBit 1 .b s)

/-- BIT 1,C (R291). -/
def execBit1C (s : State) : Host.Outcome State Fault Refusal := .next (testBit 1 .c s)

/-- BIT 1,D (R291). -/
def execBit1D (s : State) : Host.Outcome State Fault Refusal := .next (testBit 1 .d s)

/-- BIT 1,E (R291). -/
def execBit1E (s : State) : Host.Outcome State Fault Refusal := .next (testBit 1 .e s)

/-- BIT 1,H (R291). -/
def execBit1H (s : State) : Host.Outcome State Fault Refusal := .next (testBit 1 .h s)

/-- BIT 1,L (R291). -/
def execBit1L (s : State) : Host.Outcome State Fault Refusal := .next (testBit 1 .l s)

/-- BIT 1,(HL) (R292). -/
def execBit1IndHl (s : State) : Host.Outcome State Fault Refusal := .next (testBit 1 .indHl s)

/-- BIT 1,A (R291). -/
def execBit1A (s : State) : Host.Outcome State Fault Refusal := .next (testBit 1 .a s)

/-- BIT 2,B (R291). -/
def execBit2B (s : State) : Host.Outcome State Fault Refusal := .next (testBit 2 .b s)

/-- BIT 2,C (R291). -/
def execBit2C (s : State) : Host.Outcome State Fault Refusal := .next (testBit 2 .c s)

/-- BIT 2,D (R291). -/
def execBit2D (s : State) : Host.Outcome State Fault Refusal := .next (testBit 2 .d s)

/-- BIT 2,E (R291). -/
def execBit2E (s : State) : Host.Outcome State Fault Refusal := .next (testBit 2 .e s)

/-- BIT 2,H (R291). -/
def execBit2H (s : State) : Host.Outcome State Fault Refusal := .next (testBit 2 .h s)

/-- BIT 2,L (R291). -/
def execBit2L (s : State) : Host.Outcome State Fault Refusal := .next (testBit 2 .l s)

/-- BIT 2,(HL) (R292). -/
def execBit2IndHl (s : State) : Host.Outcome State Fault Refusal := .next (testBit 2 .indHl s)

/-- BIT 2,A (R291). -/
def execBit2A (s : State) : Host.Outcome State Fault Refusal := .next (testBit 2 .a s)

/-- BIT 3,B (R291). -/
def execBit3B (s : State) : Host.Outcome State Fault Refusal := .next (testBit 3 .b s)

/-- BIT 3,C (R291). -/
def execBit3C (s : State) : Host.Outcome State Fault Refusal := .next (testBit 3 .c s)

/-- BIT 3,D (R291). -/
def execBit3D (s : State) : Host.Outcome State Fault Refusal := .next (testBit 3 .d s)

/-- BIT 3,E (R291). -/
def execBit3E (s : State) : Host.Outcome State Fault Refusal := .next (testBit 3 .e s)

/-- BIT 3,H (R291). -/
def execBit3H (s : State) : Host.Outcome State Fault Refusal := .next (testBit 3 .h s)

/-- BIT 3,L (R291). -/
def execBit3L (s : State) : Host.Outcome State Fault Refusal := .next (testBit 3 .l s)

/-- BIT 3,(HL) (R292). -/
def execBit3IndHl (s : State) : Host.Outcome State Fault Refusal := .next (testBit 3 .indHl s)

/-- BIT 3,A (R291). -/
def execBit3A (s : State) : Host.Outcome State Fault Refusal := .next (testBit 3 .a s)

/-- BIT 4,B (R291). -/
def execBit4B (s : State) : Host.Outcome State Fault Refusal := .next (testBit 4 .b s)

/-- BIT 4,C (R291). -/
def execBit4C (s : State) : Host.Outcome State Fault Refusal := .next (testBit 4 .c s)

/-- BIT 4,D (R291). -/
def execBit4D (s : State) : Host.Outcome State Fault Refusal := .next (testBit 4 .d s)

/-- BIT 4,E (R291). -/
def execBit4E (s : State) : Host.Outcome State Fault Refusal := .next (testBit 4 .e s)

/-- BIT 4,H (R291). -/
def execBit4H (s : State) : Host.Outcome State Fault Refusal := .next (testBit 4 .h s)

/-- BIT 4,L (R291). -/
def execBit4L (s : State) : Host.Outcome State Fault Refusal := .next (testBit 4 .l s)

/-- BIT 4,(HL) (R292). -/
def execBit4IndHl (s : State) : Host.Outcome State Fault Refusal := .next (testBit 4 .indHl s)

/-- BIT 4,A (R291). -/
def execBit4A (s : State) : Host.Outcome State Fault Refusal := .next (testBit 4 .a s)

/-- BIT 5,B (R291). -/
def execBit5B (s : State) : Host.Outcome State Fault Refusal := .next (testBit 5 .b s)

/-- BIT 5,C (R291). -/
def execBit5C (s : State) : Host.Outcome State Fault Refusal := .next (testBit 5 .c s)

/-- BIT 5,D (R291). -/
def execBit5D (s : State) : Host.Outcome State Fault Refusal := .next (testBit 5 .d s)

/-- BIT 5,E (R291). -/
def execBit5E (s : State) : Host.Outcome State Fault Refusal := .next (testBit 5 .e s)

/-- BIT 5,H (R291). -/
def execBit5H (s : State) : Host.Outcome State Fault Refusal := .next (testBit 5 .h s)

/-- BIT 5,L (R291). -/
def execBit5L (s : State) : Host.Outcome State Fault Refusal := .next (testBit 5 .l s)

/-- BIT 5,(HL) (R292). -/
def execBit5IndHl (s : State) : Host.Outcome State Fault Refusal := .next (testBit 5 .indHl s)

/-- BIT 5,A (R291). -/
def execBit5A (s : State) : Host.Outcome State Fault Refusal := .next (testBit 5 .a s)

/-- BIT 6,B (R291). -/
def execBit6B (s : State) : Host.Outcome State Fault Refusal := .next (testBit 6 .b s)

/-- BIT 6,C (R291). -/
def execBit6C (s : State) : Host.Outcome State Fault Refusal := .next (testBit 6 .c s)

/-- BIT 6,D (R291). -/
def execBit6D (s : State) : Host.Outcome State Fault Refusal := .next (testBit 6 .d s)

/-- BIT 6,E (R291). -/
def execBit6E (s : State) : Host.Outcome State Fault Refusal := .next (testBit 6 .e s)

/-- BIT 6,H (R291). -/
def execBit6H (s : State) : Host.Outcome State Fault Refusal := .next (testBit 6 .h s)

/-- BIT 6,L (R291). -/
def execBit6L (s : State) : Host.Outcome State Fault Refusal := .next (testBit 6 .l s)

/-- BIT 6,(HL) (R292). -/
def execBit6IndHl (s : State) : Host.Outcome State Fault Refusal := .next (testBit 6 .indHl s)

/-- BIT 6,A (R291). -/
def execBit6A (s : State) : Host.Outcome State Fault Refusal := .next (testBit 6 .a s)

/-- BIT 7,B (R291). -/
def execBit7B (s : State) : Host.Outcome State Fault Refusal := .next (testBit 7 .b s)

/-- BIT 7,C (R291). -/
def execBit7C (s : State) : Host.Outcome State Fault Refusal := .next (testBit 7 .c s)

/-- BIT 7,D (R291). -/
def execBit7D (s : State) : Host.Outcome State Fault Refusal := .next (testBit 7 .d s)

/-- BIT 7,E (R291). -/
def execBit7E (s : State) : Host.Outcome State Fault Refusal := .next (testBit 7 .e s)

/-- BIT 7,H (R291). -/
def execBit7H (s : State) : Host.Outcome State Fault Refusal := .next (testBit 7 .h s)

/-- BIT 7,L (R291). -/
def execBit7L (s : State) : Host.Outcome State Fault Refusal := .next (testBit 7 .l s)

/-- BIT 7,(HL) (R292). -/
def execBit7IndHl (s : State) : Host.Outcome State Fault Refusal := .next (testBit 7 .indHl s)

/-- BIT 7,A (R291). -/
def execBit7A (s : State) : Host.Outcome State Fault Refusal := .next (testBit 7 .a s)

/-- RES 0,B (R293). -/
def execRes0B (s : State) : Host.Outcome State Fault Refusal := .next (resetBit 0 .b s)

/-- RES 0,C (R293). -/
def execRes0C (s : State) : Host.Outcome State Fault Refusal := .next (resetBit 0 .c s)

/-- RES 0,D (R293). -/
def execRes0D (s : State) : Host.Outcome State Fault Refusal := .next (resetBit 0 .d s)

/-- RES 0,E (R293). -/
def execRes0E (s : State) : Host.Outcome State Fault Refusal := .next (resetBit 0 .e s)

/-- RES 0,H (R293). -/
def execRes0H (s : State) : Host.Outcome State Fault Refusal := .next (resetBit 0 .h s)

/-- RES 0,L (R293). -/
def execRes0L (s : State) : Host.Outcome State Fault Refusal := .next (resetBit 0 .l s)

/-- RES 0,(HL) (R294). -/
def execRes0IndHl (s : State) : Host.Outcome State Fault Refusal := .next (resetBit 0 .indHl s)

/-- RES 0,A (R293). -/
def execRes0A (s : State) : Host.Outcome State Fault Refusal := .next (resetBit 0 .a s)

/-- RES 1,B (R293). -/
def execRes1B (s : State) : Host.Outcome State Fault Refusal := .next (resetBit 1 .b s)

/-- RES 1,C (R293). -/
def execRes1C (s : State) : Host.Outcome State Fault Refusal := .next (resetBit 1 .c s)

/-- RES 1,D (R293). -/
def execRes1D (s : State) : Host.Outcome State Fault Refusal := .next (resetBit 1 .d s)

/-- RES 1,E (R293). -/
def execRes1E (s : State) : Host.Outcome State Fault Refusal := .next (resetBit 1 .e s)

/-- RES 1,H (R293). -/
def execRes1H (s : State) : Host.Outcome State Fault Refusal := .next (resetBit 1 .h s)

/-- RES 1,L (R293). -/
def execRes1L (s : State) : Host.Outcome State Fault Refusal := .next (resetBit 1 .l s)

/-- RES 1,(HL) (R294). -/
def execRes1IndHl (s : State) : Host.Outcome State Fault Refusal := .next (resetBit 1 .indHl s)

/-- RES 1,A (R293). -/
def execRes1A (s : State) : Host.Outcome State Fault Refusal := .next (resetBit 1 .a s)

/-- RES 2,B (R293). -/
def execRes2B (s : State) : Host.Outcome State Fault Refusal := .next (resetBit 2 .b s)

/-- RES 2,C (R293). -/
def execRes2C (s : State) : Host.Outcome State Fault Refusal := .next (resetBit 2 .c s)

/-- RES 2,D (R293). -/
def execRes2D (s : State) : Host.Outcome State Fault Refusal := .next (resetBit 2 .d s)

/-- RES 2,E (R293). -/
def execRes2E (s : State) : Host.Outcome State Fault Refusal := .next (resetBit 2 .e s)

/-- RES 2,H (R293). -/
def execRes2H (s : State) : Host.Outcome State Fault Refusal := .next (resetBit 2 .h s)

/-- RES 2,L (R293). -/
def execRes2L (s : State) : Host.Outcome State Fault Refusal := .next (resetBit 2 .l s)

/-- RES 2,(HL) (R294). -/
def execRes2IndHl (s : State) : Host.Outcome State Fault Refusal := .next (resetBit 2 .indHl s)

/-- RES 2,A (R293). -/
def execRes2A (s : State) : Host.Outcome State Fault Refusal := .next (resetBit 2 .a s)

/-- RES 3,B (R293). -/
def execRes3B (s : State) : Host.Outcome State Fault Refusal := .next (resetBit 3 .b s)

/-- RES 3,C (R293). -/
def execRes3C (s : State) : Host.Outcome State Fault Refusal := .next (resetBit 3 .c s)

/-- RES 3,D (R293). -/
def execRes3D (s : State) : Host.Outcome State Fault Refusal := .next (resetBit 3 .d s)

/-- RES 3,E (R293). -/
def execRes3E (s : State) : Host.Outcome State Fault Refusal := .next (resetBit 3 .e s)

/-- RES 3,H (R293). -/
def execRes3H (s : State) : Host.Outcome State Fault Refusal := .next (resetBit 3 .h s)

/-- RES 3,L (R293). -/
def execRes3L (s : State) : Host.Outcome State Fault Refusal := .next (resetBit 3 .l s)

/-- RES 3,(HL) (R294). -/
def execRes3IndHl (s : State) : Host.Outcome State Fault Refusal := .next (resetBit 3 .indHl s)

/-- RES 3,A (R293). -/
def execRes3A (s : State) : Host.Outcome State Fault Refusal := .next (resetBit 3 .a s)

/-- RES 4,B (R293). -/
def execRes4B (s : State) : Host.Outcome State Fault Refusal := .next (resetBit 4 .b s)

/-- RES 4,C (R293). -/
def execRes4C (s : State) : Host.Outcome State Fault Refusal := .next (resetBit 4 .c s)

/-- RES 4,D (R293). -/
def execRes4D (s : State) : Host.Outcome State Fault Refusal := .next (resetBit 4 .d s)

/-- RES 4,E (R293). -/
def execRes4E (s : State) : Host.Outcome State Fault Refusal := .next (resetBit 4 .e s)

/-- RES 4,H (R293). -/
def execRes4H (s : State) : Host.Outcome State Fault Refusal := .next (resetBit 4 .h s)

/-- RES 4,L (R293). -/
def execRes4L (s : State) : Host.Outcome State Fault Refusal := .next (resetBit 4 .l s)

/-- RES 4,(HL) (R294). -/
def execRes4IndHl (s : State) : Host.Outcome State Fault Refusal := .next (resetBit 4 .indHl s)

/-- RES 4,A (R293). -/
def execRes4A (s : State) : Host.Outcome State Fault Refusal := .next (resetBit 4 .a s)

/-- RES 5,B (R293). -/
def execRes5B (s : State) : Host.Outcome State Fault Refusal := .next (resetBit 5 .b s)

/-- RES 5,C (R293). -/
def execRes5C (s : State) : Host.Outcome State Fault Refusal := .next (resetBit 5 .c s)

/-- RES 5,D (R293). -/
def execRes5D (s : State) : Host.Outcome State Fault Refusal := .next (resetBit 5 .d s)

/-- RES 5,E (R293). -/
def execRes5E (s : State) : Host.Outcome State Fault Refusal := .next (resetBit 5 .e s)

/-- RES 5,H (R293). -/
def execRes5H (s : State) : Host.Outcome State Fault Refusal := .next (resetBit 5 .h s)

/-- RES 5,L (R293). -/
def execRes5L (s : State) : Host.Outcome State Fault Refusal := .next (resetBit 5 .l s)

/-- RES 5,(HL) (R294). -/
def execRes5IndHl (s : State) : Host.Outcome State Fault Refusal := .next (resetBit 5 .indHl s)

/-- RES 5,A (R293). -/
def execRes5A (s : State) : Host.Outcome State Fault Refusal := .next (resetBit 5 .a s)

/-- RES 6,B (R293). -/
def execRes6B (s : State) : Host.Outcome State Fault Refusal := .next (resetBit 6 .b s)

/-- RES 6,C (R293). -/
def execRes6C (s : State) : Host.Outcome State Fault Refusal := .next (resetBit 6 .c s)

/-- RES 6,D (R293). -/
def execRes6D (s : State) : Host.Outcome State Fault Refusal := .next (resetBit 6 .d s)

/-- RES 6,E (R293). -/
def execRes6E (s : State) : Host.Outcome State Fault Refusal := .next (resetBit 6 .e s)

/-- RES 6,H (R293). -/
def execRes6H (s : State) : Host.Outcome State Fault Refusal := .next (resetBit 6 .h s)

/-- RES 6,L (R293). -/
def execRes6L (s : State) : Host.Outcome State Fault Refusal := .next (resetBit 6 .l s)

/-- RES 6,(HL) (R294). -/
def execRes6IndHl (s : State) : Host.Outcome State Fault Refusal := .next (resetBit 6 .indHl s)

/-- RES 6,A (R293). -/
def execRes6A (s : State) : Host.Outcome State Fault Refusal := .next (resetBit 6 .a s)

/-- RES 7,B (R293). -/
def execRes7B (s : State) : Host.Outcome State Fault Refusal := .next (resetBit 7 .b s)

/-- RES 7,C (R293). -/
def execRes7C (s : State) : Host.Outcome State Fault Refusal := .next (resetBit 7 .c s)

/-- RES 7,D (R293). -/
def execRes7D (s : State) : Host.Outcome State Fault Refusal := .next (resetBit 7 .d s)

/-- RES 7,E (R293). -/
def execRes7E (s : State) : Host.Outcome State Fault Refusal := .next (resetBit 7 .e s)

/-- RES 7,H (R293). -/
def execRes7H (s : State) : Host.Outcome State Fault Refusal := .next (resetBit 7 .h s)

/-- RES 7,L (R293). -/
def execRes7L (s : State) : Host.Outcome State Fault Refusal := .next (resetBit 7 .l s)

/-- RES 7,(HL) (R294). -/
def execRes7IndHl (s : State) : Host.Outcome State Fault Refusal := .next (resetBit 7 .indHl s)

/-- RES 7,A (R293). -/
def execRes7A (s : State) : Host.Outcome State Fault Refusal := .next (resetBit 7 .a s)

/-- SET 0,B (R295). -/
def execSet0B (s : State) : Host.Outcome State Fault Refusal := .next (setBit 0 .b s)

/-- SET 0,C (R295). -/
def execSet0C (s : State) : Host.Outcome State Fault Refusal := .next (setBit 0 .c s)

/-- SET 0,D (R295). -/
def execSet0D (s : State) : Host.Outcome State Fault Refusal := .next (setBit 0 .d s)

/-- SET 0,E (R295). -/
def execSet0E (s : State) : Host.Outcome State Fault Refusal := .next (setBit 0 .e s)

/-- SET 0,H (R295). -/
def execSet0H (s : State) : Host.Outcome State Fault Refusal := .next (setBit 0 .h s)

/-- SET 0,L (R295). -/
def execSet0L (s : State) : Host.Outcome State Fault Refusal := .next (setBit 0 .l s)

/-- SET 0,(HL) (R296). -/
def execSet0IndHl (s : State) : Host.Outcome State Fault Refusal := .next (setBit 0 .indHl s)

/-- SET 0,A (R295). -/
def execSet0A (s : State) : Host.Outcome State Fault Refusal := .next (setBit 0 .a s)

/-- SET 1,B (R295). -/
def execSet1B (s : State) : Host.Outcome State Fault Refusal := .next (setBit 1 .b s)

/-- SET 1,C (R295). -/
def execSet1C (s : State) : Host.Outcome State Fault Refusal := .next (setBit 1 .c s)

/-- SET 1,D (R295). -/
def execSet1D (s : State) : Host.Outcome State Fault Refusal := .next (setBit 1 .d s)

/-- SET 1,E (R295). -/
def execSet1E (s : State) : Host.Outcome State Fault Refusal := .next (setBit 1 .e s)

/-- SET 1,H (R295). -/
def execSet1H (s : State) : Host.Outcome State Fault Refusal := .next (setBit 1 .h s)

/-- SET 1,L (R295). -/
def execSet1L (s : State) : Host.Outcome State Fault Refusal := .next (setBit 1 .l s)

/-- SET 1,(HL) (R296). -/
def execSet1IndHl (s : State) : Host.Outcome State Fault Refusal := .next (setBit 1 .indHl s)

/-- SET 1,A (R295). -/
def execSet1A (s : State) : Host.Outcome State Fault Refusal := .next (setBit 1 .a s)

/-- SET 2,B (R295). -/
def execSet2B (s : State) : Host.Outcome State Fault Refusal := .next (setBit 2 .b s)

/-- SET 2,C (R295). -/
def execSet2C (s : State) : Host.Outcome State Fault Refusal := .next (setBit 2 .c s)

/-- SET 2,D (R295). -/
def execSet2D (s : State) : Host.Outcome State Fault Refusal := .next (setBit 2 .d s)

/-- SET 2,E (R295). -/
def execSet2E (s : State) : Host.Outcome State Fault Refusal := .next (setBit 2 .e s)

/-- SET 2,H (R295). -/
def execSet2H (s : State) : Host.Outcome State Fault Refusal := .next (setBit 2 .h s)

/-- SET 2,L (R295). -/
def execSet2L (s : State) : Host.Outcome State Fault Refusal := .next (setBit 2 .l s)

/-- SET 2,(HL) (R296). -/
def execSet2IndHl (s : State) : Host.Outcome State Fault Refusal := .next (setBit 2 .indHl s)

/-- SET 2,A (R295). -/
def execSet2A (s : State) : Host.Outcome State Fault Refusal := .next (setBit 2 .a s)

/-- SET 3,B (R295). -/
def execSet3B (s : State) : Host.Outcome State Fault Refusal := .next (setBit 3 .b s)

/-- SET 3,C (R295). -/
def execSet3C (s : State) : Host.Outcome State Fault Refusal := .next (setBit 3 .c s)

/-- SET 3,D (R295). -/
def execSet3D (s : State) : Host.Outcome State Fault Refusal := .next (setBit 3 .d s)

/-- SET 3,E (R295). -/
def execSet3E (s : State) : Host.Outcome State Fault Refusal := .next (setBit 3 .e s)

/-- SET 3,H (R295). -/
def execSet3H (s : State) : Host.Outcome State Fault Refusal := .next (setBit 3 .h s)

/-- SET 3,L (R295). -/
def execSet3L (s : State) : Host.Outcome State Fault Refusal := .next (setBit 3 .l s)

/-- SET 3,(HL) (R296). -/
def execSet3IndHl (s : State) : Host.Outcome State Fault Refusal := .next (setBit 3 .indHl s)

/-- SET 3,A (R295). -/
def execSet3A (s : State) : Host.Outcome State Fault Refusal := .next (setBit 3 .a s)

/-- SET 4,B (R295). -/
def execSet4B (s : State) : Host.Outcome State Fault Refusal := .next (setBit 4 .b s)

/-- SET 4,C (R295). -/
def execSet4C (s : State) : Host.Outcome State Fault Refusal := .next (setBit 4 .c s)

/-- SET 4,D (R295). -/
def execSet4D (s : State) : Host.Outcome State Fault Refusal := .next (setBit 4 .d s)

/-- SET 4,E (R295). -/
def execSet4E (s : State) : Host.Outcome State Fault Refusal := .next (setBit 4 .e s)

/-- SET 4,H (R295). -/
def execSet4H (s : State) : Host.Outcome State Fault Refusal := .next (setBit 4 .h s)

/-- SET 4,L (R295). -/
def execSet4L (s : State) : Host.Outcome State Fault Refusal := .next (setBit 4 .l s)

/-- SET 4,(HL) (R296). -/
def execSet4IndHl (s : State) : Host.Outcome State Fault Refusal := .next (setBit 4 .indHl s)

/-- SET 4,A (R295). -/
def execSet4A (s : State) : Host.Outcome State Fault Refusal := .next (setBit 4 .a s)

/-- SET 5,B (R295). -/
def execSet5B (s : State) : Host.Outcome State Fault Refusal := .next (setBit 5 .b s)

/-- SET 5,C (R295). -/
def execSet5C (s : State) : Host.Outcome State Fault Refusal := .next (setBit 5 .c s)

/-- SET 5,D (R295). -/
def execSet5D (s : State) : Host.Outcome State Fault Refusal := .next (setBit 5 .d s)

/-- SET 5,E (R295). -/
def execSet5E (s : State) : Host.Outcome State Fault Refusal := .next (setBit 5 .e s)

/-- SET 5,H (R295). -/
def execSet5H (s : State) : Host.Outcome State Fault Refusal := .next (setBit 5 .h s)

/-- SET 5,L (R295). -/
def execSet5L (s : State) : Host.Outcome State Fault Refusal := .next (setBit 5 .l s)

/-- SET 5,(HL) (R296). -/
def execSet5IndHl (s : State) : Host.Outcome State Fault Refusal := .next (setBit 5 .indHl s)

/-- SET 5,A (R295). -/
def execSet5A (s : State) : Host.Outcome State Fault Refusal := .next (setBit 5 .a s)

/-- SET 6,B (R295). -/
def execSet6B (s : State) : Host.Outcome State Fault Refusal := .next (setBit 6 .b s)

/-- SET 6,C (R295). -/
def execSet6C (s : State) : Host.Outcome State Fault Refusal := .next (setBit 6 .c s)

/-- SET 6,D (R295). -/
def execSet6D (s : State) : Host.Outcome State Fault Refusal := .next (setBit 6 .d s)

/-- SET 6,E (R295). -/
def execSet6E (s : State) : Host.Outcome State Fault Refusal := .next (setBit 6 .e s)

/-- SET 6,H (R295). -/
def execSet6H (s : State) : Host.Outcome State Fault Refusal := .next (setBit 6 .h s)

/-- SET 6,L (R295). -/
def execSet6L (s : State) : Host.Outcome State Fault Refusal := .next (setBit 6 .l s)

/-- SET 6,(HL) (R296). -/
def execSet6IndHl (s : State) : Host.Outcome State Fault Refusal := .next (setBit 6 .indHl s)

/-- SET 6,A (R295). -/
def execSet6A (s : State) : Host.Outcome State Fault Refusal := .next (setBit 6 .a s)

/-- SET 7,B (R295). -/
def execSet7B (s : State) : Host.Outcome State Fault Refusal := .next (setBit 7 .b s)

/-- SET 7,C (R295). -/
def execSet7C (s : State) : Host.Outcome State Fault Refusal := .next (setBit 7 .c s)

/-- SET 7,D (R295). -/
def execSet7D (s : State) : Host.Outcome State Fault Refusal := .next (setBit 7 .d s)

/-- SET 7,E (R295). -/
def execSet7E (s : State) : Host.Outcome State Fault Refusal := .next (setBit 7 .e s)

/-- SET 7,H (R295). -/
def execSet7H (s : State) : Host.Outcome State Fault Refusal := .next (setBit 7 .h s)

/-- SET 7,L (R295). -/
def execSet7L (s : State) : Host.Outcome State Fault Refusal := .next (setBit 7 .l s)

/-- SET 7,(HL) (R296). -/
def execSet7IndHl (s : State) : Host.Outcome State Fault Refusal := .next (setBit 7 .indHl s)

/-- SET 7,A (R295). -/
def execSet7A (s : State) : Host.Outcome State Fault Refusal := .next (setBit 7 .a s)

end Sys2Proof.Machine
end

