-- ==== Sys2Proof/Machine/Control.lean ====
section
/-! DEFINITION. Control transfer (44_control.md): the shared operations, then one meaning per instruction. A meaning runs with `pc`
past the whole instruction and leaves out the base cost, which the step adds (30_encoding.md R127, R130). -/

namespace Sys2Proof.Machine

/-- `if cond(cc): pc <- nn; cost <- cost + TAKEN_EXTRA_JP` (R311). -/
def jumpIf (cc : Cond) (nn : Word) (s : State) : State :=
  if s.holds cc then (s.setPc nn).addTicks s.params.takenJp else s

/-- `pc <- (pc + sext_16(e)) mod 2^16` (R313). -/
def jumpRelative (e : Byte) (s : State) : State :=
  s.setPc (s.regs.pc + signExtend16 e)

/-- JR cc,e (R314). -/
def jumpRelativeIf (cc : Cond) (e : Byte) (s : State) : State :=
  if s.holds cc then (jumpRelative e s).addTicks s.params.takenJr else s

/-- `Push(pc); pc <- nn` (R315, R320). -/
def call (nn : Word) (s : State) : State :=
  (s.pushWord s.regs.pc).setPc nn

/-- CALL cc,nn (R316). -/
def callIf (cc : Cond) (nn : Word) (s : State) : State :=
  if s.holds cc then (call nn s).addTicks s.params.takenCall else s

/-- RET cc (R318). -/
def returnIf (cc : Cond) (s : State) : State :=
  if s.holds cc then (returnFromCall s).addTicks s.params.takenRet else s

/-- JR e (R313). -/
def execJrE (e : Byte) (s : State) : Host.Outcome State Fault Refusal := .next (jumpRelative e s)

/-- JR NZ,e (R314). -/
def execJrNzE (e : Byte) (s : State) : Host.Outcome State Fault Refusal := .next (jumpRelativeIf .nz e s)

/-- JR Z,e (R314). -/
def execJrZE (e : Byte) (s : State) : Host.Outcome State Fault Refusal := .next (jumpRelativeIf .z e s)

/-- JR NC,e (R314). -/
def execJrNcE (e : Byte) (s : State) : Host.Outcome State Fault Refusal := .next (jumpRelativeIf .nc e s)

/-- JR C,e (R314). -/
def execJrCE (e : Byte) (s : State) : Host.Outcome State Fault Refusal := .next (jumpRelativeIf .c e s)

/-- RET NZ (R318). -/
def execRetNz (s : State) : Host.Outcome State Fault Refusal := .next (returnIf .nz s)

/-- JP NZ,nn (R311). -/
def execJpNzNn (nn : Word) (s : State) : Host.Outcome State Fault Refusal := .next (jumpIf .nz nn s)

/-- JP nn (R310). -/
def execJpNn (nn : Word) (s : State) : Host.Outcome State Fault Refusal := .next (s.setPc nn)

/-- CALL NZ,nn (R316). -/
def execCallNzNn (nn : Word) (s : State) : Host.Outcome State Fault Refusal := .next (callIf .nz nn s)

/-- RST 0x00 (R320). -/
def execRst00 (s : State) : Host.Outcome State Fault Refusal := .next (call 0x0000 s)

/-- RET Z (R318). -/
def execRetZ (s : State) : Host.Outcome State Fault Refusal := .next (returnIf .z s)

/-- RET (R317). -/
def execRet (s : State) : Host.Outcome State Fault Refusal := .next (returnFromCall s)

/-- JP Z,nn (R311). -/
def execJpZNn (nn : Word) (s : State) : Host.Outcome State Fault Refusal := .next (jumpIf .z nn s)

/-- CALL Z,nn (R316). -/
def execCallZNn (nn : Word) (s : State) : Host.Outcome State Fault Refusal := .next (callIf .z nn s)

/-- CALL nn (R315). -/
def execCallNn (nn : Word) (s : State) : Host.Outcome State Fault Refusal := .next (call nn s)

/-- RST 0x08 (R320). -/
def execRst08 (s : State) : Host.Outcome State Fault Refusal := .next (call 0x0008 s)

/-- RET NC (R318). -/
def execRetNc (s : State) : Host.Outcome State Fault Refusal := .next (returnIf .nc s)

/-- JP NC,nn (R311). -/
def execJpNcNn (nn : Word) (s : State) : Host.Outcome State Fault Refusal := .next (jumpIf .nc nn s)

/-- CALL NC,nn (R316). -/
def execCallNcNn (nn : Word) (s : State) : Host.Outcome State Fault Refusal := .next (callIf .nc nn s)

/-- RST 0x10 (R320). -/
def execRst10 (s : State) : Host.Outcome State Fault Refusal := .next (call 0x0010 s)

/-- RET C (R318). -/
def execRetC (s : State) : Host.Outcome State Fault Refusal := .next (returnIf .c s)

/-- RETI (R319). -/
def execReti (s : State) : Host.Outcome State Fault Refusal := .next (returnFromInterrupt s)

/-- JP C,nn (R311). -/
def execJpCNn (nn : Word) (s : State) : Host.Outcome State Fault Refusal := .next (jumpIf .c nn s)

/-- CALL C,nn (R316). -/
def execCallCNn (nn : Word) (s : State) : Host.Outcome State Fault Refusal := .next (callIf .c nn s)

/-- RST 0x18 (R320). -/
def execRst18 (s : State) : Host.Outcome State Fault Refusal := .next (call 0x0018 s)

/-- RST 0x20 (R320). -/
def execRst20 (s : State) : Host.Outcome State Fault Refusal := .next (call 0x0020 s)

/-- JP HL (R312). -/
def execJpHl (s : State) : Host.Outcome State Fault Refusal := .next (s.setPc (s.pair .hl))

/-- RST 0x28 (R320). -/
def execRst28 (s : State) : Host.Outcome State Fault Refusal := .next (call 0x0028 s)

/-- RST 0x30 (R320). -/
def execRst30 (s : State) : Host.Outcome State Fault Refusal := .next (call 0x0030 s)

/-- RST 0x38 (R320). -/
def execRst38 (s : State) : Host.Outcome State Fault Refusal := .next (call 0x0038 s)

end Sys2Proof.Machine
end

