-- ==== Sys2Proof/Machine/Load.lean ====
section
/-! DEFINITION. Loads, stores and stack transfers (40_load.md): the shared operations, then one meaning per instruction. A meaning runs with `pc`
past the whole instruction and leaves out the base cost, which the step adds (30_encoding.md R127, R130). -/

namespace Sys2Proof.Machine

/-- `dst <- src` (R160–R163); the source is read before the destination is written. -/
def loadOperand (dst src : Operand8) (s : State) : State :=
  (s.afterOperand src).writeOperand dst (s.operand src)

/-- `a <- MemRead(addr, 1)`. -/
def loadA (addr : Word) (s : State) : State :=
  (s.afterRead addr).setA (s.readByte addr)

/-- `MemWrite(addr, 1, a)`. -/
def storeA (addr : Word) (s : State) : State :=
  s.writeByte addr s.regs.a

/-- `rr2 <- Pop()` (R183, R184). -/
def popTo (p : StackPair) (s : State) : State :=
  s.afterPop.setStackPair p s.popValue

/-- LD BC,nn (R179). -/
def execLdBcNn (nn : Word) (s : State) : Host.Outcome State Fault Refusal := .next (s.setPair .bc nn)

/-- LD (BC),A (R167). -/
def execLdIndBcA (s : State) : Host.Outcome State Fault Refusal := .next (storeA (s.pair .bc) s)

/-- LD B,n (R161). -/
def execLdBN (n : Byte) (s : State) : Host.Outcome State Fault Refusal := .next (s.writeOperand .b n)

/-- LD (nn),SP (R180). -/
def execLdIndNnSp (nn : Word) (s : State) : Host.Outcome State Fault Refusal := .next (s.writeShort nn s.regs.sp)

/-- LD A,(BC) (R165). -/
def execLdAIndBc (s : State) : Host.Outcome State Fault Refusal := .next (loadA (s.pair .bc) s)

/-- LD C,n (R161). -/
def execLdCN (n : Byte) (s : State) : Host.Outcome State Fault Refusal := .next (s.writeOperand .c n)

/-- LD DE,nn (R179). -/
def execLdDeNn (nn : Word) (s : State) : Host.Outcome State Fault Refusal := .next (s.setPair .de nn)

/-- LD (DE),A (R168). -/
def execLdIndDeA (s : State) : Host.Outcome State Fault Refusal := .next (storeA (s.pair .de) s)

/-- LD D,n (R161). -/
def execLdDN (n : Byte) (s : State) : Host.Outcome State Fault Refusal := .next (s.writeOperand .d n)

/-- LD A,(DE) (R166). -/
def execLdAIndDe (s : State) : Host.Outcome State Fault Refusal := .next (loadA (s.pair .de) s)

/-- LD E,n (R161). -/
def execLdEN (n : Byte) (s : State) : Host.Outcome State Fault Refusal := .next (s.writeOperand .e n)

/-- LD HL,nn (R179). -/
def execLdHlNn (nn : Word) (s : State) : Host.Outcome State Fault Refusal := .next (s.setPair .hl nn)

/-- LD (HL+),A (R175). -/
def execLdIndHlIncA (s : State) : Host.Outcome State Fault Refusal := .next ((storeA (s.pair .hl) s).setPair .hl (s.pair .hl + 1))

/-- LD H,n (R161). -/
def execLdHN (n : Byte) (s : State) : Host.Outcome State Fault Refusal := .next (s.writeOperand .h n)

/-- LD A,(HL+) (R177). -/
def execLdAIndHlInc (s : State) : Host.Outcome State Fault Refusal := .next ((loadA (s.pair .hl) s).setPair .hl (s.pair .hl + 1))

/-- LD L,n (R161). -/
def execLdLN (n : Byte) (s : State) : Host.Outcome State Fault Refusal := .next (s.writeOperand .l n)

/-- LD SP,nn (R179). -/
def execLdSpNn (nn : Word) (s : State) : Host.Outcome State Fault Refusal := .next (s.setPair .sp nn)

/-- LD (HL-),A (R176). -/
def execLdIndHlDecA (s : State) : Host.Outcome State Fault Refusal := .next ((storeA (s.pair .hl) s).setPair .hl (s.pair .hl - 1))

/-- LD (HL),n (R164). -/
def execLdIndHlN (n : Byte) (s : State) : Host.Outcome State Fault Refusal := .next (s.writeOperand .indHl n)

/-- LD A,(HL-) (R178). -/
def execLdAIndHlDec (s : State) : Host.Outcome State Fault Refusal := .next ((loadA (s.pair .hl) s).setPair .hl (s.pair .hl - 1))

/-- LD A,n (R161). -/
def execLdAN (n : Byte) (s : State) : Host.Outcome State Fault Refusal := .next (s.writeOperand .a n)

/-- LD B,B (R160). -/
def execLdBB (s : State) : Host.Outcome State Fault Refusal := .next (loadOperand .b .b s)

/-- LD B,C (R160). -/
def execLdBC (s : State) : Host.Outcome State Fault Refusal := .next (loadOperand .b .c s)

/-- LD B,D (R160). -/
def execLdBD (s : State) : Host.Outcome State Fault Refusal := .next (loadOperand .b .d s)

/-- LD B,E (R160). -/
def execLdBE (s : State) : Host.Outcome State Fault Refusal := .next (loadOperand .b .e s)

/-- LD B,H (R160). -/
def execLdBH (s : State) : Host.Outcome State Fault Refusal := .next (loadOperand .b .h s)

/-- LD B,L (R160). -/
def execLdBL (s : State) : Host.Outcome State Fault Refusal := .next (loadOperand .b .l s)

/-- LD B,(HL) (R162). -/
def execLdBIndHl (s : State) : Host.Outcome State Fault Refusal := .next (loadOperand .b .indHl s)

/-- LD B,A (R160). -/
def execLdBA (s : State) : Host.Outcome State Fault Refusal := .next (loadOperand .b .a s)

/-- LD C,B (R160). -/
def execLdCB (s : State) : Host.Outcome State Fault Refusal := .next (loadOperand .c .b s)

/-- LD C,C (R160). -/
def execLdCC (s : State) : Host.Outcome State Fault Refusal := .next (loadOperand .c .c s)

/-- LD C,D (R160). -/
def execLdCD (s : State) : Host.Outcome State Fault Refusal := .next (loadOperand .c .d s)

/-- LD C,E (R160). -/
def execLdCE (s : State) : Host.Outcome State Fault Refusal := .next (loadOperand .c .e s)

/-- LD C,H (R160). -/
def execLdCH (s : State) : Host.Outcome State Fault Refusal := .next (loadOperand .c .h s)

/-- LD C,L (R160). -/
def execLdCL (s : State) : Host.Outcome State Fault Refusal := .next (loadOperand .c .l s)

/-- LD C,(HL) (R162). -/
def execLdCIndHl (s : State) : Host.Outcome State Fault Refusal := .next (loadOperand .c .indHl s)

/-- LD C,A (R160). -/
def execLdCA (s : State) : Host.Outcome State Fault Refusal := .next (loadOperand .c .a s)

/-- LD D,B (R160). -/
def execLdDB (s : State) : Host.Outcome State Fault Refusal := .next (loadOperand .d .b s)

/-- LD D,C (R160). -/
def execLdDC (s : State) : Host.Outcome State Fault Refusal := .next (loadOperand .d .c s)

/-- LD D,D (R160). -/
def execLdDD (s : State) : Host.Outcome State Fault Refusal := .next (loadOperand .d .d s)

/-- LD D,E (R160). -/
def execLdDE (s : State) : Host.Outcome State Fault Refusal := .next (loadOperand .d .e s)

/-- LD D,H (R160). -/
def execLdDH (s : State) : Host.Outcome State Fault Refusal := .next (loadOperand .d .h s)

/-- LD D,L (R160). -/
def execLdDL (s : State) : Host.Outcome State Fault Refusal := .next (loadOperand .d .l s)

/-- LD D,(HL) (R162). -/
def execLdDIndHl (s : State) : Host.Outcome State Fault Refusal := .next (loadOperand .d .indHl s)

/-- LD D,A (R160). -/
def execLdDA (s : State) : Host.Outcome State Fault Refusal := .next (loadOperand .d .a s)

/-- LD E,B (R160). -/
def execLdEB (s : State) : Host.Outcome State Fault Refusal := .next (loadOperand .e .b s)

/-- LD E,C (R160). -/
def execLdEC (s : State) : Host.Outcome State Fault Refusal := .next (loadOperand .e .c s)

/-- LD E,D (R160). -/
def execLdED (s : State) : Host.Outcome State Fault Refusal := .next (loadOperand .e .d s)

/-- LD E,E (R160). -/
def execLdEE (s : State) : Host.Outcome State Fault Refusal := .next (loadOperand .e .e s)

/-- LD E,H (R160). -/
def execLdEH (s : State) : Host.Outcome State Fault Refusal := .next (loadOperand .e .h s)

/-- LD E,L (R160). -/
def execLdEL (s : State) : Host.Outcome State Fault Refusal := .next (loadOperand .e .l s)

/-- LD E,(HL) (R162). -/
def execLdEIndHl (s : State) : Host.Outcome State Fault Refusal := .next (loadOperand .e .indHl s)

/-- LD E,A (R160). -/
def execLdEA (s : State) : Host.Outcome State Fault Refusal := .next (loadOperand .e .a s)

/-- LD H,B (R160). -/
def execLdHB (s : State) : Host.Outcome State Fault Refusal := .next (loadOperand .h .b s)

/-- LD H,C (R160). -/
def execLdHC (s : State) : Host.Outcome State Fault Refusal := .next (loadOperand .h .c s)

/-- LD H,D (R160). -/
def execLdHD (s : State) : Host.Outcome State Fault Refusal := .next (loadOperand .h .d s)

/-- LD H,E (R160). -/
def execLdHE (s : State) : Host.Outcome State Fault Refusal := .next (loadOperand .h .e s)

/-- LD H,H (R160). -/
def execLdHH (s : State) : Host.Outcome State Fault Refusal := .next (loadOperand .h .h s)

/-- LD H,L (R160). -/
def execLdHL (s : State) : Host.Outcome State Fault Refusal := .next (loadOperand .h .l s)

/-- LD H,(HL) (R162). -/
def execLdHIndHl (s : State) : Host.Outcome State Fault Refusal := .next (loadOperand .h .indHl s)

/-- LD H,A (R160). -/
def execLdHA (s : State) : Host.Outcome State Fault Refusal := .next (loadOperand .h .a s)

/-- LD L,B (R160). -/
def execLdLB (s : State) : Host.Outcome State Fault Refusal := .next (loadOperand .l .b s)

/-- LD L,C (R160). -/
def execLdLC (s : State) : Host.Outcome State Fault Refusal := .next (loadOperand .l .c s)

/-- LD L,D (R160). -/
def execLdLD (s : State) : Host.Outcome State Fault Refusal := .next (loadOperand .l .d s)

/-- LD L,E (R160). -/
def execLdLE (s : State) : Host.Outcome State Fault Refusal := .next (loadOperand .l .e s)

/-- LD L,H (R160). -/
def execLdLH (s : State) : Host.Outcome State Fault Refusal := .next (loadOperand .l .h s)

/-- LD L,L (R160). -/
def execLdLL (s : State) : Host.Outcome State Fault Refusal := .next (loadOperand .l .l s)

/-- LD L,(HL) (R162). -/
def execLdLIndHl (s : State) : Host.Outcome State Fault Refusal := .next (loadOperand .l .indHl s)

/-- LD L,A (R160). -/
def execLdLA (s : State) : Host.Outcome State Fault Refusal := .next (loadOperand .l .a s)

/-- LD (HL),B (R163). -/
def execLdIndHlB (s : State) : Host.Outcome State Fault Refusal := .next (loadOperand .indHl .b s)

/-- LD (HL),C (R163). -/
def execLdIndHlC (s : State) : Host.Outcome State Fault Refusal := .next (loadOperand .indHl .c s)

/-- LD (HL),D (R163). -/
def execLdIndHlD (s : State) : Host.Outcome State Fault Refusal := .next (loadOperand .indHl .d s)

/-- LD (HL),E (R163). -/
def execLdIndHlE (s : State) : Host.Outcome State Fault Refusal := .next (loadOperand .indHl .e s)

/-- LD (HL),H (R163). -/
def execLdIndHlH (s : State) : Host.Outcome State Fault Refusal := .next (loadOperand .indHl .h s)

/-- LD (HL),L (R163). -/
def execLdIndHlL (s : State) : Host.Outcome State Fault Refusal := .next (loadOperand .indHl .l s)

/-- LD (HL),A (R163). -/
def execLdIndHlA (s : State) : Host.Outcome State Fault Refusal := .next (loadOperand .indHl .a s)

/-- LD A,B (R160). -/
def execLdAB (s : State) : Host.Outcome State Fault Refusal := .next (loadOperand .a .b s)

/-- LD A,C (R160). -/
def execLdAC (s : State) : Host.Outcome State Fault Refusal := .next (loadOperand .a .c s)

/-- LD A,D (R160). -/
def execLdAD (s : State) : Host.Outcome State Fault Refusal := .next (loadOperand .a .d s)

/-- LD A,E (R160). -/
def execLdAE (s : State) : Host.Outcome State Fault Refusal := .next (loadOperand .a .e s)

/-- LD A,H (R160). -/
def execLdAH (s : State) : Host.Outcome State Fault Refusal := .next (loadOperand .a .h s)

/-- LD A,L (R160). -/
def execLdAL (s : State) : Host.Outcome State Fault Refusal := .next (loadOperand .a .l s)

/-- LD A,(HL) (R162). -/
def execLdAIndHl (s : State) : Host.Outcome State Fault Refusal := .next (loadOperand .a .indHl s)

/-- LD A,A (R160). -/
def execLdAA (s : State) : Host.Outcome State Fault Refusal := .next (loadOperand .a .a s)

/-- POP BC (R183). -/
def execPopBc (s : State) : Host.Outcome State Fault Refusal := .next (popTo .bc s)

/-- PUSH BC (R182). -/
def execPushBc (s : State) : Host.Outcome State Fault Refusal := .next (s.pushWord (s.stackPair .bc))

/-- POP DE (R183). -/
def execPopDe (s : State) : Host.Outcome State Fault Refusal := .next (popTo .de s)

/-- PUSH DE (R182). -/
def execPushDe (s : State) : Host.Outcome State Fault Refusal := .next (s.pushWord (s.stackPair .de))

/-- LDH (n),A (R172). -/
def execLdhIndNA (n : Byte) (s : State) : Host.Outcome State Fault Refusal := .next (storeA (highPage n) s)

/-- POP HL (R183). -/
def execPopHl (s : State) : Host.Outcome State Fault Refusal := .next (popTo .hl s)

/-- LD (C),A (R174). -/
def execLdIndCA (s : State) : Host.Outcome State Fault Refusal := .next (storeA (highPage s.regs.c) s)

/-- PUSH HL (R182). -/
def execPushHl (s : State) : Host.Outcome State Fault Refusal := .next (s.pushWord (s.stackPair .hl))

/-- LD (nn),A (R170). -/
def execLdIndNnA (nn : Word) (s : State) : Host.Outcome State Fault Refusal := .next (storeA nn s)

/-- LDH A,(n) (R171). -/
def execLdhAIndN (n : Byte) (s : State) : Host.Outcome State Fault Refusal := .next (loadA (highPage n) s)

/-- POP AF (R184). -/
def execPopAf (s : State) : Host.Outcome State Fault Refusal := .next (popTo .af s)

/-- LD A,(C) (R173). -/
def execLdAIndC (s : State) : Host.Outcome State Fault Refusal := .next (loadA (highPage s.regs.c) s)

/-- PUSH AF (R182). -/
def execPushAf (s : State) : Host.Outcome State Fault Refusal := .next (s.pushWord (s.stackPair .af))

/-- LD SP,HL (R181). -/
def execLdSpHl (s : State) : Host.Outcome State Fault Refusal := .next (s.setSp (s.pair .hl))

/-- LD A,(nn) (R169). -/
def execLdAIndNn (nn : Word) (s : State) : Host.Outcome State Fault Refusal := .next (loadA nn s)

end Sys2Proof.Machine
end

