-- ==== Sys2Proof/Machine/Rotate.lean ====
section
/-! DEFINITION. The accumulator rotates (43_rotate_shift_bit.md): the shared operations, then one meaning per instruction. A meaning runs with `pc`
past the whole instruction and leaves out the base cost, which the step adds (30_encoding.md R127, R130). -/

namespace Sys2Proof.Machine

/-- RLCA, RRCA, RLA, RRA: the result and carry of the CB form, Z always clear (R270–R273, R297). -/
def rotateA (op : ShiftOp) (s : State) : State :=
  let out := shiftOut op s.regs.a s.flags.c
  (s.setA out.result).setFlags (rotateAFlags out)

/-- RLCA (R270). -/
def execRlca (s : State) : Host.Outcome State Fault Refusal := .next (rotateA .rlc s)

/-- RRCA (R271). -/
def execRrca (s : State) : Host.Outcome State Fault Refusal := .next (rotateA .rrc s)

/-- RLA (R272). -/
def execRla (s : State) : Host.Outcome State Fault Refusal := .next (rotateA .rl s)

/-- RRA (R273). -/
def execRra (s : State) : Host.Outcome State Fault Refusal := .next (rotateA .rr s)

end Sys2Proof.Machine
end

