-- ==== Sys2Proof/Machine/System.lean ====
section
/-! DEFINITION. System and interrupt-control instructions and the eleven illegal opcodes (45_system.md): the shared operations, then one meaning per instruction. A meaning runs with `pc`
past the whole instruction and leaves out the base cost, which the step adds (30_encoding.md R127, R130). -/

namespace Sys2Proof.Machine

/-- NOP (R340). -/
def execNop (s : State) : Host.Outcome State Fault Refusal := .next s

/-- STOP (R342). -/
def execStop (_n : Byte) (s : State) : Host.Outcome State Fault Refusal := .next (s.setStopped true)

/-- HALT (R341). -/
def execHalt (s : State) : Host.Outcome State Fault Refusal := .next s

/-- The illegal opcode 0xD3 (R345). -/
def execIllegalD3 (s : State) : Host.Outcome State Fault Refusal := .next (takeIllegalOpcode 0xD3 0 s)

/-- The illegal opcode 0xDB (R345). -/
def execIllegalDB (s : State) : Host.Outcome State Fault Refusal := .next (takeIllegalOpcode 0xDB 0 s)

/-- The illegal opcode 0xDD (R345). -/
def execIllegalDD (s : State) : Host.Outcome State Fault Refusal := .next (takeIllegalOpcode 0xDD 0 s)

/-- The illegal opcode 0xE3 (R345). -/
def execIllegalE3 (s : State) : Host.Outcome State Fault Refusal := .next (takeIllegalOpcode 0xE3 0 s)

/-- The illegal opcode 0xE4 (R345). -/
def execIllegalE4 (s : State) : Host.Outcome State Fault Refusal := .next (takeIllegalOpcode 0xE4 0 s)

/-- The illegal opcode 0xEB (R345). -/
def execIllegalEB (s : State) : Host.Outcome State Fault Refusal := .next (takeIllegalOpcode 0xEB 0 s)

/-- The illegal opcode 0xEC (R345). -/
def execIllegalEC (s : State) : Host.Outcome State Fault Refusal := .next (takeIllegalOpcode 0xEC 0 s)

/-- The illegal opcode 0xED (R345). -/
def execIllegalED (s : State) : Host.Outcome State Fault Refusal := .next (takeIllegalOpcode 0xED 0 s)

/-- DI (R343). -/
def execDi (s : State) : Host.Outcome State Fault Refusal := .next (s.setMaster false)

/-- The illegal opcode 0xF4 (R345). -/
def execIllegalF4 (s : State) : Host.Outcome State Fault Refusal := .next (takeIllegalOpcode 0xF4 0 s)

/-- EI (R344). -/
def execEi (s : State) : Host.Outcome State Fault Refusal := .next (s.setMaster true)

/-- The illegal opcode 0xFC (R345). -/
def execIllegalFC (s : State) : Host.Outcome State Fault Refusal := .next (takeIllegalOpcode 0xFC 0 s)

/-- The illegal opcode 0xFD (R345). -/
def execIllegalFD (s : State) : Host.Outcome State Fault Refusal := .next (takeIllegalOpcode 0xFD 0 s)

end Sys2Proof.Machine
end

