-- ==== Sys2Proof/Machine/Fetch.lean ====
section
/-! DEFINITION. Fetching an instruction's bytes through the bus (30_encoding.md R127, 20_memory.md R110), and placing bytes
where a fetch will find them. -/

namespace Sys2Proof.Machine

/-- `n` bytes read from ascending addresses, each read seeing what the ones before it consumed. -/
def fetchBytes : Nat → Word → State → List Byte
  | 0, _, _ => []
  | n + 1, a, s => s.readByte a :: fetchBytes n (a + 1) (s.afterRead a)

/-- The state after those reads. -/
def afterFetch : Nat → Word → State → State
  | 0, _, s => s
  | n + 1, a, s => afterFetch n (a + 1) (s.afterRead a)

/-- The opcode at `pc` (R127 step 2). -/
def State.fetchedOpcode (s : State) : Byte :=
  s.readByte s.regs.pc

/-- The length of the instruction at `pc` (R120). -/
def State.fetchedLength (s : State) : Nat :=
  1 + operandWidth s.fetchedOpcode

/-- The bytes of the instruction at `pc` (R127 steps 2 to 4). -/
def State.fetchedBytes (s : State) : List Byte :=
  fetchBytes s.fetchedLength s.regs.pc s

/-- The state the handler runs in: the bytes read, `pc` past the whole instruction (R127 step 5). -/
def State.atHandler (s : State) : State :=
  (afterFetch s.fetchedLength s.regs.pc s).setPc (s.regs.pc + BitVec.ofNat 16 s.fetchedLength)

/-- Setting a byte through its storage, as the loader or a test does, with no bus side effect. An address with no storage a
read can see (FF00, FF04, FF44) keeps nothing. -/
def State.poke (s : State) (a : Word) (v : Byte) : State :=
  match busTarget a with
  | .rom i => s.setMem i v
  | .ram k => s.setMem k v
  | .joypad => s
  | .divider => s
  | .scanline => s
  | .pending => s.setPending v
  | .control => s.setControl v
  | .scrollY => s.setScrollY v
  | .scrollX => s.setScrollX v
  | .dma => s.setIo 0x46 v
  | .io i => s.setIo i v
  | .enable => s.setEnable v

/-- Whether a poked byte is read back at the address. -/
def pokeable (a : Word) : Bool :=
  match busTarget a with
  | .joypad => false
  | .divider => false
  | .scanline => false
  | .rom _ => true
  | .ram _ => true
  | .pending => true
  | .control => true
  | .scrollY => true
  | .scrollX => true
  | .dma => true
  | .io _ => true
  | .enable => true

/-- Whether the address is past a ROM of this length, so that a byte there needs a longer image. -/
def beyondRom (romLen : Nat) (a : Word) : Bool :=
  match busTarget a with
  | .rom i => decide (romLen ≤ i)
  | .ram _ => false
  | .joypad => false
  | .divider => false
  | .pending => false
  | .control => false
  | .scrollY => false
  | .scrollX => false
  | .scanline => false
  | .dma => false
  | .io _ => false
  | .enable => false

/-- A loaded, running machine, its image long enough for the three addresses (log 12). -/
def State.readyToFetch (s : State) (a : Word) : State :=
  { s with
    stopped := false
    run := .running
    cartridge := .loaded
    romLen :=
      if s.romLen < 384 || beyondRom s.romLen a || beyondRom s.romLen (a + 1) || beyondRom s.romLen (a + 2) then 32768
      else s.romLen }

/-- Where the instruction is placed: at `pc`, or at the reset entry point when one of the three addresses from `pc` holds
no byte of its own (log 12). -/
def State.placementAddress (s : State) : Word :=
  if pokeable s.regs.pc && pokeable (s.regs.pc + 1) && pokeable (s.regs.pc + 2) then s.regs.pc else 0x0100

/-- The three bytes placed where the next step fetches. -/
def placeInstruction (b0 b1 b2 : Byte) (s : State) : State :=
  let a := s.placementAddress
  ((((s.readyToFetch a).poke a b0).poke (a + 1) b1).poke (a + 2) b2).setPc a

end Sys2Proof.Machine
end

