-- ==== Sys2Proof/Machine/Interrupt.lean ====
section
/-! DEFINITION. The interrupt step (60_exceptions.md R370–R374). -/

namespace Sys2Proof.Machine

/-- `enable & pending & 0x1F` (R370). -/
def State.activeSources (s : State) : Byte :=
  s.intr.enable &&& s.intr.pending &&& 0x1F

/-- The lowest-numbered of the five sources set in `act` (R371). -/
def lowestSource (act : Byte) : Option Nat :=
  if act.getLsbD 0 then some 0
  else if act.getLsbD 1 then some 1
  else if act.getLsbD 2 then some 2
  else if act.getLsbD 3 then some 3
  else if act.getLsbD 4 then some 4
  else none

/-- `IntStep()` (R372): dispatch the first active source when `master` is set. -/
def intStep (s : State) : State :=
  if s.intr.master then
    match lowestSource s.activeSources with
    | some i => dispatchInterrupt i s
    | none => s
  else s

end Sys2Proof.Machine
end

