-- ==== Sys2Proof/Machine/PixelTiming.lean ====
section
/-! DEFINITION. The pixel-timing step (60_exceptions.md R380–R386). -/

namespace Sys2Proof.Machine

/-- The numeric encoding of a mode (10_state.md R48); no address exposes it. -/
def PpuMode.code : PpuMode → Nat
  | .hblank => 0
  | .vblank => 1
  | .oam => 2
  | .vram => 3

/-- The cycles a mode lasts (00_scope.md R14, 60_exceptions.md R381–R384). -/
def modeCycles : PpuMode → Nat
  | .oam => 80
  | .vram => 172
  | .hblank => 204
  | .vblank => 456

/-- Leaving a mode: the next scanline and mode (R381–R384). -/
def nextLine (mode : PpuMode) (scanline : Nat) : Nat × PpuMode :=
  match mode with
  | .oam => (scanline, .vram)
  | .vram => (scanline, .hblank)
  | .hblank => if scanline + 1 = 144 then (scanline + 1, .vblank) else (scanline + 1, .oam)
  | .vblank => if scanline + 1 > 153 then (0, .oam) else (scanline + 1, .vblank)

/-- The VBLANK request at the end of line 143's H-blank, gated on `enable[0]` (R383, 90_conflicts.md C3). -/
def raisesVblank (s : State) : Bool :=
  s.ppu.mode == .hblank && s.ppu.scanline + 1 == 144 && s.intr.enable.getLsbD 0

/-- The unit with the cycles since its last step added to `tick` (R380). -/
def accrueTicks (s : State) : State :=
  { s with ppu := { s.ppu with tick := s.ppu.tick + (s.ticks - s.ppu.lastTicks), lastTicks := s.ticks } }

/-- One mode transition: subtract the threshold, move on, raise VBLANK where it is due (R381–R384). -/
def leaveMode (s : State) : State :=
  let next := nextLine s.ppu.mode s.ppu.scanline
  let t := if raisesVblank s then s.setPending (s.intr.pending ||| 0x01) else s
  { t with
    ppu := { t.ppu with tick := s.ppu.tick - modeCycles s.ppu.mode, scanline := next.1, mode := next.2 } }

/-- `PpuStep()` (R380): at most one transition (R385). -/
def ppuStep (s : State) : State :=
  let t := accrueTicks s
  if t.ppu.tick ≥ modeCycles t.ppu.mode then leaveMode t else t

end Sys2Proof.Machine
end

