-- ==== Sys2Proof/Machine/Step.lean ====
section
/-! DEFINITION. The step: one iteration of the host's loop (60_exceptions.md R365). -/

namespace Sys2Proof.Machine

/-- R127 steps 6 and 7: the instruction's own rule, then its base cost. -/
def runInstruction (i : Instr) (cost : Nat) (s : State) : Host.Outcome State Fault Refusal :=
  match exec i s with
  | .next t => .next (t.addTicks cost)
  | .fault r => .fault r
  | .refused r => .refused r

/-- `CpuStep()` (30_encoding.md R127–R129). A trap is a next state with `run` Faulted. -/
def cpuStep (s : State) : Host.Outcome State Fault Refusal :=
  if s.stopped then .next s
  else if s.params.traps s.fetchedOpcode then
    .next (takeIllegalOpcode s.fetchedOpcode (operandWidth s.fetchedOpcode) s.atHandler)
  else
    match decode s.fetchedBytes with
    | .ok (i, _) => runInstruction i (s.params.baseCost s.fetchedBytes) s.atHandler
    | .error e => .refused (.undecodable e)

/-- The rest of the iteration after the CPU step: nothing but the fault when it faulted (R362), else the pixel-timing step,
then the interrupt step (R365). -/
def finishIteration (s : State) : Host.Outcome State Fault Refusal :=
  match s.run with
  | .faulted r => .fault (.illegalOpcode r)
  | .running => .next (intStep (ppuStep s))

/-- `Iterate()` (R365) of a loaded machine: a faulted one gives the same fault again (93 I7). -/
def iterate (s : State) : Host.Outcome State Fault Refusal :=
  match s.run with
  | .faulted r => .fault (.illegalOpcode r)
  | .running =>
    match cpuStep s with
    | .next t => finishIteration t
    | .fault r => .fault r
    | .refused r => .refused r

/-- One iteration; refused before a load and after a failed one (93 I8, 70_reset_and_hazards.md R424). -/
def step (s : State) : Host.Outcome State Fault Refusal :=
  match s.cartridge with
  | .absent => .refused .noCartridge
  | .loadFailed => .refused .cartridgeLoadFailed
  | .loaded => iterate s

/-- The state with the table word's instruction placed where `step` fetches next, in a loaded, running machine (log 12). -/
def State.withFetchWord (s : State) (nbits w : Nat) : State :=
  placeInstruction (tableByte (w % 2 ^ nbits) 0) (tableByte (w % 2 ^ nbits) 1) (tableByte (w % 2 ^ nbits) 2) s

end Sys2Proof.Machine
end

