-- ==== Sys2Proof/Machine/HostActions.lean ====
section
/-! DEFINITION. The host's other actions (60_exceptions.md R393), each between two iterations. -/

namespace Sys2Proof.Machine

/-- The cells of a ROM image, home address rising, no entry for a zero byte. -/
def romCells : Nat → List Byte → Memory
  | _, [] => []
  | i, v :: bytes => if v = Memory.unlisted then romCells (i + 1) bytes else (i, v) :: romCells (i + 1) bytes

/-- The cartridge diagnostic: the 16-byte name at 0x134 and the type at 0x147 (R363). -/
def cartridgeDiag (image : List Byte) : Diag :=
  .cartridge ((image.drop 0x134).take 16) (image.getD 0x147 0x00)

/-- `loadRom(bytes)` (R393, 70_reset_and_hazards.md R423, R424); `none` is an unreadable image. A failed load marks the
machine and changes nothing else (log 8). -/
def State.loadRom (s : State) (image : Option (List Byte)) : State :=
  match image with
  | none => { s with cartridge := .loadFailed }
  | some bytes =>
    if 384 ≤ bytes.length ∧ bytes.length ≤ 32768 then
      { s with
        mem := romCells 0 bytes ++ s.mem.filter (fun c => 0x8000 ≤ c.1)
        romLen := bytes.length
        cartridge := .loaded
        diags := cartridgeDiag bytes :: s.diags }
    else { s with cartridge := .loadFailed }

/-- `wake()` (R393): no other effect. -/
def State.wake (s : State) : State :=
  s.setStopped false

/-- `reset()` (70_reset_and_hazards.md R420): every element at its reset value but the ROM and its length (92 D43), the
parameters, and what is the host's own: the load status, the wiring, the draws and the diagnostics stream (log 8). -/
def State.resetAction (s : State) : State :=
  { State.reset with
    mem := s.mem.filter (fun c => decide (c.1 < 0x8000))
    cartridge := s.cartridge
    romLen := s.romLen
    params := s.params
    joypadWired := s.joypadWired
    draws := s.draws
    diags := s.diags }

/-- Wiring an input source to JOYPAD, or unwiring it (00_scope.md R12). -/
def State.wireJoypad (s : State) (wired : Bool) : State :=
  { s with joypadWired := wired }

end Sys2Proof.Machine
end

