-- ==== Sys2Proof/Safety.lean ====
section
/-! DEFINITION. What claims mean by a good state and by the end of a run. -/

namespace Sys2Proof.Machine

/-- The home addresses of the plain stores: the ROM image, and every byte of vram, sram, wram, oam and the 128 of hram
(00_scope.md R14, 10_state.md R50). The decoder selects each but hram's last one, which the enable register hides (20_memory.md
R93, R94; log 10). -/
def homeAddress (romLen k : Nat) : Bool :=
  decide (k < 0x8000 ∧ k < romLen) || decide (0x8000 ≤ k ∧ k < 0xE000) || decide (0xFE00 ≤ k ∧ k < 0xFF00) ||
    decide (0xFF80 ≤ k ∧ k ≤ 0xFFFF)

/-- The memory keeps its canonical form, and lists only bytes of the stores. -/
def State.MemoryGood (s : State) : Prop :=
  Memory.wf s.mem ∧ ∀ c ∈ s.mem, homeAddress s.romLen c.1 = true

/-- "Lower nibble of `f` is unused and must read as zero" (10_state.md R33). -/
def State.FlagsGood (s : State) : Prop :=
  s.regs.f &&& 0x0F = 0x00

/-- The scanline stays in 0–153 (10_state.md R46): visible lines outside V-blank, 144 to 153 in it (60_exceptions.md
R387). -/
def State.ScanlineGood (s : State) : Prop :=
  match s.ppu.mode with
  | .vblank => 144 ≤ s.ppu.scanline ∧ s.ppu.scanline ≤ 153
  | .hblank => s.ppu.scanline ≤ 143
  | .oam => s.ppu.scanline ≤ 143
  | .vram => s.ppu.scanline ≤ 143

/-- The unit never looks ahead of the cycle counter (60_exceptions.md R380: "never negative"). -/
def State.TicksGood (s : State) : Prop :=
  s.ppu.lastTicks ≤ s.ticks

/-- A loaded image has a legal length (00_scope.md R5). -/
def State.RomGood (s : State) : Prop :=
  s.cartridge = .loaded → 384 ≤ s.romLen ∧ s.romLen ≤ 32768

/-- The invariant of the block. -/
structure State.Good (s : State) : Prop where
  memory : s.MemoryGood
  flags : s.FlagsGood
  scanline : s.ScanlineGood
  ticks : s.TicksGood
  rom : s.RomGood

/-- No dispatch is possible (60_exceptions.md R395). -/
def State.noDispatch (s : State) : Bool :=
  !s.intr.master || s.activeSources == 0x00

/-- Why a run ends (R395). -/
inductive RunEnd where
  | fault (record : FaultRecord)
  | quiescent
  | selfLoop
  deriving DecidableEq, Repr

/-- The end of a run at an iteration boundary (R395). The two bytes of (c) are what reads of them would give in this very state,
no free value consumed; at FF04, or FF00 when wired, that is the pending free value, so such a place counts as a self-loop when
that value fits, although the next fetch may draw another. DESIGN CHOICE (log 18): the spec does not say. Unsafe. Where two ends
hold at one boundary the first of (a), (b), (c) is named, so one that meets (b) and (c) is quiescent. DESIGN CHOICE (log 19): the
spec orders none first. Unsafe. -/
def State.runEnd (s : State) : Option RunEnd :=
  match s.run with
  | .faulted r => some (.fault r)
  | .running =>
    if s.stopped && s.noDispatch then some .quiescent
    else if s.readByte s.regs.pc == 0x18 && s.readByte (s.regs.pc + 1) == 0xFE && s.noDispatch then some .selfLoop
    else none

end Sys2Proof.Machine
end

