-- ==== Sys2Proof/Certificates/Slice0/Obligations.lean ====
section
/-! DEFINITION. The statements for the provers, one `def Obligations.<Name> : Prop` each, from the numbered rules of spec/. The
helper predicates before them say results in the spec's own arithmetic (natural numbers, narrowed at the end), and what else
an instruction leaves alone. A meaning runs with `pc` past its instruction and without the base cost (30_encoding.md R127);
`StepRunsTheDecodedInstruction` says what the step adds. -/

namespace Sys2Proof.Claims

open Sys2Proof.Machine

/-! ### Codes of operands (30_encoding.md R124, R125, R134) -/

/-- The code of an 8-bit operand field. -/
def registerCode : Operand8 → Byte
  | .b => 0
  | .c => 1
  | .d => 2
  | .e => 3
  | .h => 4
  | .l => 5
  | .indHl => 6
  | .a => 7

/-- The code of a pair field `rr`. -/
def pairCode : Pair → Byte
  | .bc => 0
  | .de => 1
  | .hl => 2
  | .sp => 3

/-- The code of a pair field `rr2`. -/
def stackPairCode : StackPair → Byte
  | .bc => 0
  | .de => 1
  | .hl => 2
  | .af => 3

/-- The code of a condition field. -/
def condCode : Cond → Byte
  | .nz => 0
  | .z => 1
  | .nc => 2
  | .c => 3

/-- The field `y` of the sub-opcodes with x = 0. -/
def shiftCode : ShiftOp → Byte
  | .rlc => 0
  | .rrc => 1
  | .rl => 2
  | .rr => 3
  | .sla => 4
  | .sra => 5
  | .swap => 6
  | .srl => 7

/-- A bit index as a field. -/
def bitCode (b : Fin 8) : Byte := BitVec.ofNat 8 b

/-- A 16-bit operand as its two bytes, the low one first (R122). -/
def wordBytes (nn : Word) : List Byte := [BitVec.ofNat 8 nn.toNat, BitVec.ofNat 8 (nn.toNat / 256)]

/-! ### Values -/

/-- `hl` (10_state.md R31). -/
def hlOf (s : State) : Word := BitVec.ofNat 16 (256 * s.regs.h.toNat + s.regs.l.toNat)

/-- `0xFF00 + n` (40_load.md R171). -/
def pageFF (n : Byte) : Word := BitVec.ofNat 16 (0xFF00 + n.toNat)

/-- A displacement as a signed integer (00_scope.md R16). -/
def signed (e : Byte) : Int := if e.toNat < 128 then (e.toNat : Int) else (e.toNat : Int) - 256

/-- Flag C as 0 or 1 (10_state.md R34). -/
def carryIn (s : State) : Nat := (s.regs.f.getLsbD 4).toNat

/-- The byte `f` of four flags: Z = 0x80, N = 0x40, H = 0x20, C = 0x10, low nibble 0 (10_state.md R33, R34). -/
def flagByte (z n h c : Bool) : Byte :=
  BitVec.ofNat 8 (128 * z.toNat + 64 * n.toNat + 32 * h.toNat + 16 * c.toNat)

/-- `cond(cc)` on the flags of `s` (30_encoding.md R125). -/
def condHolds (s : State) : Cond → Bool
  | .nz => s.regs.f.getLsbD 7 == false
  | .z => s.regs.f.getLsbD 7
  | .nc => s.regs.f.getLsbD 4 == false
  | .c => s.regs.f.getLsbD 4

/-- `x[r]`, or `MemRead(hl, 1)` for code 6 (30_encoding.md R124). -/
def valueOf (s : State) : Operand8 → Byte
  | .b => s.regs.b
  | .c => s.regs.c
  | .d => s.regs.d
  | .e => s.regs.e
  | .h => s.regs.h
  | .l => s.regs.l
  | .indHl => s.readByte (hlOf s)
  | .a => s.regs.a

/-- The state after that read: only the (HL) form reads the bus. -/
def afterValue (s : State) : Operand8 → State
  | .indHl => s.afterRead (hlOf s)
  | _ => s

/-- `x[r] <- v`; code 6 is no register. -/
def setRegister (r : Regs) (o : Operand8) (v : Byte) : Regs :=
  match o with
  | .b => { r with b := v }
  | .c => { r with c := v }
  | .d => { r with d := v }
  | .e => { r with e := v }
  | .h => { r with h := v }
  | .l => { r with l := v }
  | .indHl => r
  | .a => { r with a := v }

/-- `x[r] <- v`, or `MemWrite(hl, 1, v)` for code 6. -/
def putOperand (s : State) (o : Operand8) (v : Byte) : State :=
  match o with
  | .indHl => s.writeByte (hlOf s) v
  | o => { s with regs := setRegister s.regs o v }

/-- The addresses the operand's write stores to. -/
def storedBy (s : State) : Operand8 → List Word
  | .indHl => [hlOf s]
  | _ => []

/-- `x[rr]` as a natural number (10_state.md R31). -/
def pairValue (s : State) : Pair → Nat
  | .bc => 256 * s.regs.b.toNat + s.regs.c.toNat
  | .de => 256 * s.regs.d.toNat + s.regs.e.toNat
  | .hl => 256 * s.regs.h.toNat + s.regs.l.toNat
  | .sp => s.regs.sp.toNat

/-- `x[rr] <- v mod 2^16`: both halves, high first-named (10_state.md R32). -/
def setPairTo (r : Regs) (p : Pair) (v : Nat) : Regs :=
  match p with
  | .bc => { r with b := BitVec.ofNat 8 (v / 256), c := BitVec.ofNat 8 v }
  | .de => { r with d := BitVec.ofNat 8 (v / 256), e := BitVec.ofNat 8 v }
  | .hl => { r with h := BitVec.ofNat 8 (v / 256), l := BitVec.ofNat 8 v }
  | .sp => { r with sp := BitVec.ofNat 16 v }

/-- The two bytes of a pair of PUSH: the high one and the low one. -/
def stackPairBytes (s : State) : StackPair → Byte × Byte
  | .bc => (s.regs.b, s.regs.c)
  | .de => (s.regs.d, s.regs.e)
  | .hl => (s.regs.h, s.regs.l)
  | .af => (s.regs.a, s.regs.f)

/-- A pair of POP from its two bytes; `f` keeps a zero low nibble (40_load.md R183, R184). -/
def setStackPairTo (r : Regs) (p : StackPair) (hi lo : Byte) : Regs :=
  match p with
  | .bc => { r with b := hi, c := lo }
  | .de => { r with d := hi, e := lo }
  | .hl => { r with h := hi, l := lo }
  | .af => { r with a := hi, f := lo &&& 0xF0 }

/-- `Push` of a high and a low byte: `sp` minus 2, then the low byte at `sp` and the high byte at `sp + 1` (20_memory.md
R97, R98). -/
def pushed (s : State) (hi lo : Byte) : State :=
  (({ s with regs := { s.regs with sp := s.regs.sp - 2 } }.writeByte (s.regs.sp - 2) lo).writeByte (s.regs.sp - 1) hi)

/-- The addresses a push stores to. -/
def pushAddresses (s : State) : List Word := [s.regs.sp - 2, s.regs.sp - 1]

/-- The low byte `Pop` reads, at `sp` (20_memory.md R96, R99). -/
def popLow (s : State) : Byte := s.readByte s.regs.sp

/-- The high byte `Pop` reads, at `sp + 1`, after the low one. -/
def popHigh (s : State) : Byte := (s.afterRead s.regs.sp).readByte (s.regs.sp + 1)

/-- The state after `Pop`: both bytes read, `sp` plus 2. -/
def popped (s : State) : State :=
  { (s.afterRead s.regs.sp).afterRead (s.regs.sp + 1) with regs := { s.regs with sp := s.regs.sp + 2 } }

/-- The address a pop leaves in `pc`. -/
def poppedWord (s : State) : Word := BitVec.ofNat 16 (256 * (popHigh s).toNat + (popLow s).toNat)

/-! ### Frames -/

/-- Two addresses of the same storage byte: the same address, or one the echo of the other (20_memory.md R78). -/
def sameByte (a b : Word) : Prop :=
  a = b ∨ (0xC000 ≤ a.toNat ∧ a.toNat < 0xDE00 ∧ b = a + 0x2000) ∨ (0xC000 ≤ b.toNat ∧ b.toNat < 0xDE00 ∧ a = b + 0x2000)

/-- `b` is outside what a store to `a` can change: a store to ROM changes nothing (R74), one to FF46 also copies to
FE00–FE9F (R90). -/
def Outside (a b : Word) : Prop :=
  (a.toNat < 0x8000 ∨ ¬ sameByte a b) ∧ (a = 0xFF46 → ¬ (0xFE00 ≤ b.toNat ∧ b.toNat < 0xFEA0))

/-- Every byte outside the stored addresses reads as before. (A read of FF00 or FF04 is fresh each time, R80, R82: these two
are compared only when no free value was consumed between.) -/
def OnlyStores (s t : State) (stored : List Word) : Prop :=
  ∀ b : Word, (∀ a ∈ stored, Outside a b) → ((b ≠ 0xFF00 ∧ b ≠ 0xFF04) ∨ t.draws = s.draws) →
    t.readByte b = s.readByte b

/-- Plain storage: what is stored there is what is read there (20_memory.md R75–R79, R92, R93). -/
def PlainStorage (a : Word) : Prop :=
  0x8000 ≤ a.toNat ∧ a.toNat < 0xFFFF ∧ a ≠ 0xFF00 ∧ a ≠ 0xFF04 ∧ a ≠ 0xFF0F ∧ a ≠ 0xFF40 ∧ a ≠ 0xFF42 ∧ a ≠ 0xFF43 ∧
    a ≠ 0xFF44 ∧ a ≠ 0xFF46

/-- The instruction has these bytes, completes, and leaves exactly this state, which differs in memory from the one before
only at these addresses. -/
def Does (i : Instr) (bytes : List Byte) (s t : State) (stored : List Word) : Prop :=
  encode i = bytes ∧ exec i s = .next t ∧ OnlyStores s t stored

/-! ### Results -/

/-- `a <- add8(a, v, cin)` (41_alu8.md R200), the operand's read being already done in `u`. -/
def added (s u : State) (v : Byte) (cin : Nat) : State :=
  let sum := s.regs.a.toNat + v.toNat + cin
  { u with regs := { s.regs with
      a := BitVec.ofNat 8 sum
      f := flagByte (decide (sum % 256 = 0)) false (decide (s.regs.a.toNat % 16 + v.toNat % 16 + cin > 15))
        (decide (sum > 255)) } }

/-- The flags of `sub8(a, v, bin)` (R201). -/
def subtractFlags (a v bin : Nat) : Byte :=
  flagByte (decide (((a : Int) - v - bin) % 256 = 0)) true (decide (a % 16 < v % 16 + bin)) (decide (a < v + bin))

/-- `a <- sub8(a, v, bin)` (R201). -/
def subtracted (s u : State) (v : Byte) (bin : Nat) : State :=
  { u with regs := { s.regs with
      a := BitVec.ofInt 8 ((s.regs.a.toNat : Int) - v.toNat - bin)
      f := subtractFlags s.regs.a.toNat v.toNat bin } }

/-- `cp8(a, v)` (R204). -/
def compared (s u : State) (v : Byte) : State :=
  { u with regs := { s.regs with f := subtractFlags s.regs.a.toNat v.toNat 0 } }

/-- A logical result with H as the operation sets it, N and C clear (R202, R203). -/
def logical (s u : State) (result : Byte) (h : Bool) : State :=
  { u with regs := { s.regs with a := result, f := flagByte (decide (result.toNat = 0)) false h false } }

/-- Flags of `s` by their positions (10_state.md R34). -/
def zOf (s : State) : Bool := s.regs.f.getLsbD 7
/-- Flag N. -/
def nOf (s : State) : Bool := s.regs.f.getLsbD 6
/-- Flag H. -/
def hOf (s : State) : Bool := s.regs.f.getLsbD 5
/-- Flag C. -/
def cOf (s : State) : Bool := s.regs.f.getLsbD 4

/-- `inc8` on an operand: result, Z, N = 0, H from the old low nibble, C as it was (41_alu8.md R205). -/
def incremented (s : State) (o : Operand8) : State :=
  let v := (valueOf s o).toNat
  let u := afterValue s o
  putOperand { u with regs := { s.regs with f := flagByte (decide ((v + 1) % 256 = 0)) false (decide (v % 16 = 15)) (cOf s) } } o
    (BitVec.ofNat 8 (v + 1))

/-- `dec8` on an operand: result, Z, N = 1, H from the old low nibble, C as it was (R206). -/
def decremented (s : State) (o : Operand8) : State :=
  let v := (valueOf s o).toNat
  let u := afterValue s o
  putOperand { u with regs := { s.regs with f := flagByte (decide (v = 1)) true (decide (v % 16 = 0)) (cOf s) } } o
    (BitVec.ofNat 8 (v + 255))

/-- The result and the carry out of a rotate, shift or SWAP of `v` with the carry in (43_rotate_shift_bit.md R275–R290). -/
def shifted (op : ShiftOp) (v cin : Nat) : Nat × Bool :=
  match op with
  | .rlc => (2 * v % 256 + v / 128, decide (v ≥ 128))
  | .rrc => (v / 2 + 128 * (v % 2), decide (v % 2 = 1))
  | .rl => (2 * v % 256 + cin, decide (v ≥ 128))
  | .rr => (v / 2 + 128 * cin, decide (v % 2 = 1))
  | .sla => (2 * v % 256, decide (v ≥ 128))
  | .sra => (v / 2 + 128 * (v / 128), decide (v % 2 = 1))
  | .swap => (16 * (v % 16) + v / 16, false)
  | .srl => (v / 2, decide (v % 2 = 1))

/-- DAA on natural numbers (41_alu8.md R235): the new `a` and the new C. -/
def decimalAdjusted (a : Nat) (n h c : Bool) : Nat × Bool :=
  if n then
    ((a + (if c then 256 - 0x60 else 0) + (if h then 256 - 0x06 else 0)) % 256, c)
  else
    let high := c || decide (a > 0x99)
    ((a + (if high then 0x60 else 0) + (if h || decide (a % 16 > 9) then 0x06 else 0)) % 256, high)

/-- The instructions that may write `pc` themselves (30_encoding.md R131), the trap among them. -/
def WritesPc (i : Instr) : Prop :=
  (∃ e, i = .jrE e) ∨ (∃ e cc, i = Instr.jumpRelativeIfForm e cc) ∨ (∃ nn, i = .jpNn nn) ∨
    (∃ nn cc, i = Instr.jumpIfForm nn cc) ∨ i = .jpHl ∨ (∃ nn, i = .callNn nn) ∨ (∃ nn cc, i = Instr.callIfForm nn cc) ∨
    i = .ret ∨ (∃ cc, i = Instr.returnIfForm cc) ∨ i = .reti ∨ (∃ k, i = Instr.restartForm k) ∨
    (∃ k, i = Instr.illegalForm k)

/-- The instructions whose cost depends on a condition (30_encoding.md R130). -/
def HasVariableCost (i : Instr) : Prop :=
  (∃ e cc, i = Instr.jumpRelativeIfForm e cc) ∨ (∃ nn cc, i = Instr.jumpIfForm nn cc) ∨
    (∃ nn cc, i = Instr.callIfForm nn cc) ∨ (∃ cc, i = Instr.returnIfForm cc)

/-- A machine that runs: loaded, not faulted, not stopped. -/
def Runs (s : State) : Prop :=
  s.cartridge = .loaded ∧ s.run = .running ∧ s.stopped = false

/-- The sources that can be dispatched: `enable & pending & 0x1F` (60_exceptions.md R370). -/
def active (s : State) : Byte := s.intr.enable &&& s.intr.pending &&& 0x1F

/-- Two-digit BCD of a number below 100. -/
def bcd (x : Nat) : Byte := BitVec.ofNat 8 (16 * (x / 10) + x % 10)

end Sys2Proof.Claims

open Sys2Proof Sys2Proof.Machine Sys2Proof.Claims

/-! ### Encoding -/

/-- Every well-formed instruction's bytes decode to it, and the decoder takes exactly them. (The one ill-formed constructor is
the bare prefix row, log 9.) -/
def Obligations.DecodeOfEncodeIsTheInstruction : Prop :=
  ∀ (i : Instr) (rest : List Byte), i.wellFormed = true → decode (encode i ++ rest) = .ok (i, rest)

/-- What the decoder accepts are the bytes of a well-formed instruction: no two byte strings mean the same one. -/
def Obligations.EncodeOfDecodeIsTheBytes : Prop :=
  ∀ (bytes rest : List Byte) (i : Instr), decode bytes = .ok (i, rest) → i.wellFormed = true ∧ bytes = encode i ++ rest

/-- 30_encoding.md R138, R120: three bytes always decode, to an instruction of length 1 + width; so a fetch never fails. -/
def Obligations.EveryFetchDecodes : Prop :=
  (∀ op n m : Byte, ∃ i rest, decode [op, n, m] = .ok (i, rest) ∧ rest.length + 1 + operandWidth op = 3 ∧
    operandWidth op ≤ 2) ∧
  (∀ s : State, ∃ i, decode s.fetchedBytes = .ok (i, []))

/-- 30_encoding.md R123–R126: the fields y, z, p and cc of a primary opcode select the operation and the operands. -/
def Obligations.PrimaryFieldsSelectOperands : Prop :=
  (∀ dst r : Operand8, (dst ≠ .indHl ∨ r ≠ .indHl) →
    decode [0x40 + 8 * registerCode dst + registerCode r] = .ok (Instr.loadForm dst r, [])) ∧
  (∀ (op : AluOp) (y : Byte) (r : Operand8) (n : Byte),
    (op, y) ∈ [(AluOp.add, 0), (.adc, 1), (.sub, 2), (.sbc, 3), (.and, 4), (.xor, 5), (.or, 6), (.cp, 7)] →
    decode [0x80 + 8 * y + registerCode r] = .ok (Instr.aluForm op r, []) ∧
    decode [0xC6 + 8 * y, n] = .ok (Instr.aluImmForm n op, [])) ∧
  (∀ (r : Operand8) (n : Byte),
    decode [0x04 + 8 * registerCode r] = .ok (Instr.incForm r, []) ∧
    decode [0x05 + 8 * registerCode r] = .ok (Instr.decForm r, []) ∧
    decode [0x06 + 8 * registerCode r, n] = .ok (Instr.loadImmForm n r, [])) ∧
  (∀ (p : Pair) (lo hi : Byte),
    decode [0x01 + 16 * pairCode p, lo, hi] = .ok (Instr.loadPairForm (BitVec.ofNat 16 (256 * hi.toNat + lo.toNat)) p, []) ∧
    decode [0x03 + 16 * pairCode p] = .ok (Instr.incPairForm p, []) ∧
    decode [0x0B + 16 * pairCode p] = .ok (Instr.decPairForm p, []) ∧
    decode [0x09 + 16 * pairCode p] = .ok (Instr.addHlForm p, [])) ∧
  (∀ p : StackPair,
    decode [0xC1 + 16 * stackPairCode p] = .ok (Instr.popForm p, []) ∧
    decode [0xC5 + 16 * stackPairCode p] = .ok (Instr.pushForm p, [])) ∧
  (∀ (cc : Cond) (lo hi : Byte),
    decode [0x20 + 8 * condCode cc, lo] = .ok (Instr.jumpRelativeIfForm lo cc, []) ∧
    decode [0xC0 + 8 * condCode cc] = .ok (Instr.returnIfForm cc, []) ∧
    decode [0xC2 + 8 * condCode cc, lo, hi] = .ok (Instr.jumpIfForm (BitVec.ofNat 16 (256 * hi.toNat + lo.toNat)) cc, []) ∧
    decode [0xC4 + 8 * condCode cc, lo, hi] = .ok (Instr.callIfForm (BitVec.ofNat 16 (256 * hi.toNat + lo.toNat)) cc, [])) ∧
  (∀ k : Fin 8, decode [0xC7 + 8 * bitCode k] = .ok (Instr.restartForm k, []))

/-- 30_encoding.md R134: the fields x, y and z of a CB sub-opcode select the operation, the bit and the operand, and the
prefix row's own meaning is that operation (43_rotate_shift_bit.md R274). (That `CB n` decodes to the row of `n` and never to the
prefix row's constructor is the model's reading, DEDUCED: log 9.) -/
def Obligations.CbFieldsSelectOperations : Prop :=
  (∀ (op : ShiftOp) (r : Operand8),
    decode [0xCB, 8 * shiftCode op + registerCode r] = .ok (Instr.shiftForm op r, [])) ∧
  (∀ (b : Fin 8) (r : Operand8),
    decode [0xCB, 0x40 + 8 * bitCode b + registerCode r] = .ok (Instr.bitForm b r, []) ∧
    decode [0xCB, 0x80 + 8 * bitCode b + registerCode r] = .ok (Instr.resForm b r, []) ∧
    decode [0xCB, 0xC0 + 8 * bitCode b + registerCode r] = .ok (Instr.setForm b r, [])) ∧
  (∀ (n : Byte) (s : State), ∃ i t, decode [0xCB, n] = .ok (i, []) ∧ exec i s = .next t ∧
    encode (.prefixCb n) = [0xCB, n] ∧ exec (.prefixCb n) s = .next t)

/-- Words written out from the spec's encodings decode to what they stand for. -/
def Obligations.SpecWordsDecode : Prop :=
  decode [0x3E, 0x42] = .ok (.ldAN 0x42, []) ∧ decode [0x21, 0x00, 0xC0] = .ok (.ldHlNn 0xC000, []) ∧
  decode [0x08, 0x00, 0xC0] = .ok (.ldIndNnSp 0xC000, []) ∧ decode [0xC3, 0x50, 0x01] = .ok (.jpNn 0x0150, []) ∧
  decode [0x18, 0xFE] = .ok (.jrE 0xFE, []) ∧ decode [0xE0, 0xFF] = .ok (.ldhIndNA 0xFF, []) ∧
  decode [0x76] = .ok (.halt, []) ∧ decode [0x10, 0x00] = .ok (.stop 0x00, []) ∧ decode [0x27] = .ok (.daa, []) ∧
  decode [0xCB, 0x7C] = .ok (.bit7H, []) ∧ decode [0xD9] = .ok (.reti, []) ∧ decode [0xD3] = .ok (.illegalD3, [])

/-! ### Registers and reset -/

/-- 10_state.md R31, R32: a pair is `{high, low}` of its two registers; writing a pair writes both halves and nothing else,
and writing a half shows in the pair (`f` without its low nibble, R33). -/
def Obligations.PairsAreViewsOfTheirHalves : Prop :=
  ∀ (s : State) (v : Word) (x : Byte) (p : Pair),
    (s.pair p).toNat = pairValue s p ∧
    (s.setPair p v) = { s with regs := setPairTo s.regs p v.toNat } ∧
    (s.setPair p v).pair p = v ∧
    ((s.writeOperand .b x).pair .bc).toNat = 256 * x.toNat + s.regs.c.toNat ∧
    ((s.writeOperand .c x).pair .bc).toNat = 256 * s.regs.b.toNat + x.toNat ∧
    ((s.writeOperand .d x).pair .de).toNat = 256 * x.toNat + s.regs.e.toNat ∧
    ((s.writeOperand .e x).pair .de).toNat = 256 * s.regs.d.toNat + x.toNat ∧
    ((s.writeOperand .h x).pair .hl).toNat = 256 * x.toNat + s.regs.l.toNat ∧
    ((s.writeOperand .l x).pair .hl).toNat = 256 * s.regs.h.toNat + x.toNat ∧
    (s.stackPair .af).toNat = 256 * s.regs.a.toNat + s.regs.f.toNat ∧
    s.setStackPair .af v =
      { s with regs := setStackPairTo s.regs .af (BitVec.ofNat 8 (v.toNat / 256)) (BitVec.ofNat 8 v.toNat) } ∧
    ((s.writeOperand .a x).stackPair .af).toNat = 256 * x.toNat + s.regs.f.toNat ∧
    ((s.setF x).stackPair .af).toNat = 256 * s.regs.a.toNat + 16 * (x.toNat / 16)

/-- 70_reset_and_hazards.md R421: what reset leaves in every element, from any state, the faulted ones included; ROM bytes
and their number are as they were. (The I/O bytes are uninterpreted, log 2; hram's last byte, which no address reaches, has its
home at 0xFFFF, log 10.) -/
def Obligations.ResetLeavesTheStatedValues : Prop :=
  ∀ s : State, ∀ t ∈ [s.resetAction, State.reset],
    t.regs = { a := 0x01, f := 0xB0, b := 0x00, c := 0x13, d := 0x00, e := 0xD8, h := 0x01, l := 0x4D, sp := 0xFFFE,
               pc := 0x0100 } ∧
    t.ticks = 0 ∧ t.stopped = false ∧ t.run = .running ∧
    t.intr = { master := true, enable := 0x00, pending := 0x00 } ∧
    t.ppu = { control := 0x00, scrollY := 0x00, scrollX := 0x00, scanline := 0, tick := 0, mode := .hblank,
              lastTicks := 0 } ∧
    (∀ a : Word, 0x8000 ≤ a.toNat → a.toNat < 0xFF00 → t.readByte a = 0x00) ∧
    (∀ a : Word, 0xFF80 ≤ a.toNat → a.toNat < 0xFFFF → t.readByte a = 0x00) ∧
    t.mem.read 0xFFFF = 0x00 ∧
    (∀ k : Fin 256, t.io[k] = Config.ioReset k) ∧
    (t = s.resetAction → t.romLen = s.romLen ∧ ∀ k : Nat, k < 0x8000 → t.mem.read k = s.mem.read k)

/-- The invariant holds right after reset. (The canonical form of memory is the model's, log 10.) -/
def Obligations.ResetStateIsGood : Prop :=
  State.reset.Good

/-! ### The bus -/

/-- 20_memory.md R72–R94: what a read of every address returns. (At FF04, and at FF00 when an input is wired, it is the next
free value: the model's form of R80 and R82, DESIGN CHOICE, log 4.) -/
def Obligations.ReadsFollowTheAddressMap : Prop :=
  ∀ (s : State) (a : Word),
    (a.toNat < 0x8000 → a.toNat < s.romLen → s.readByte a = s.mem.read a.toNat) ∧
    (a.toNat < 0x8000 → s.romLen ≤ a.toNat → s.readByte a = 0x00 ∧ (s.afterRead a).diags = .outOfRange a :: s.diags) ∧
    (0x8000 ≤ a.toNat → a.toNat < 0xE000 → s.readByte a = s.mem.read a.toNat) ∧
    (0xE000 ≤ a.toNat → a.toNat < 0xFE00 → s.readByte a = s.mem.read (a.toNat - 0x2000)) ∧
    (0xFE00 ≤ a.toNat → a.toNat < 0xFF00 → s.readByte a = s.mem.read a.toNat) ∧
    (a = 0xFF00 → s.joypadWired = false → s.readByte a = 0xFF) ∧
    (a = 0xFF00 → s.joypadWired = true →
      s.readByte a = Config.joypad s.draws s.io[0x00] ∧ (s.afterRead a).draws = s.draws + 1) ∧
    (a = 0xFF04 → s.readByte a = Config.divDraw s.draws ∧ (s.afterRead a).draws = s.draws + 1) ∧
    (a = 0xFF0F → s.readByte a = s.intr.pending) ∧
    (a = 0xFF40 → s.readByte a = s.ppu.control) ∧
    (a = 0xFF42 → s.readByte a = s.ppu.scrollY) ∧
    (a = 0xFF43 → s.readByte a = s.ppu.scrollX) ∧
    (a = 0xFF44 → s.readByte a = s.params.lySentinel) ∧
    (a = 0xFF46 → s.readByte a = s.io[0x46]) ∧
    (0xFF00 ≤ a.toNat → a.toNat < 0xFF80 → a ∉ ([0xFF00, 0xFF04, 0xFF0F, 0xFF40, 0xFF42, 0xFF43, 0xFF44, 0xFF46] : List Word) →
      s.readByte a = s.io[Fin.ofNat 256 (a.toNat - 0xFF00)]) ∧
    (0xFF80 ≤ a.toNat → a.toNat < 0xFFFF → s.readByte a = s.mem.read a.toNat) ∧
    (a = 0xFFFF → s.readByte a = s.intr.enable)

/-- 20_memory.md R104: a read changes no state; two reads of the same address agree, but at FF00 and FF04. (The model's
count of free values and the diagnostics stream are no state of the block.) -/
def Obligations.ReadsChangeNoState : Prop :=
  ∀ (s : State) (a : Word),
    s.afterRead a = { s with draws := (s.afterRead a).draws, diags := (s.afterRead a).diags } ∧
    (a ≠ 0xFF00 → a ≠ 0xFF04 → (s.afterRead a).readByte a = s.readByte a ∧ (s.afterRead a).draws = s.draws) ∧
    (s.romLen ≤ a.toNat → a.toNat < 0x8000 → (s.afterRead a).diags = .outOfRange a :: s.diags) ∧
    (a.toNat < s.romLen ∨ 0x8000 ≤ a.toNat → (s.afterRead a).diags = s.diags)

/-- 20_memory.md R75–R79, R92, R93: what is stored in plain storage is what is read there, and through the echo both
ways. (The memory is in its canonical form, which every step keeps: `StepKeepsGood`.) -/
def Obligations.PlainStorageReadsBack : Prop :=
  ∀ (s : State) (a : Word) (v : Byte), Memory.wf s.mem → PlainStorage a →
    (∀ b : Word, sameByte a b → (s.writeByte a v).readByte b = v) ∧
    s.writeByte a v = { s with mem := (s.writeByte a v).mem, io := (s.writeByte a v).io }

/-- 20_memory.md R72–R94: a store changes no byte but its own (and, to FF46, the copied ones), and no register, latch, clock,
`master` or pixel-timing counter; a store to a ROM address changes nothing (R74). Derived: each rule says what its store does,
not what it leaves alone. -/
def Obligations.StoresChangeOnlyTheirByte : Prop :=
  ∀ (s : State) (a : Word) (v : Byte),
    (a.toNat < 0x8000 → s.writeByte a v = s) ∧
    OnlyStores s (s.writeByte a v) [a] ∧
    s.writeByte a v =
      { s with
        mem := (s.writeByte a v).mem
        io := (s.writeByte a v).io
        intr := { s.intr with pending := (s.writeByte a v).intr.pending, enable := (s.writeByte a v).intr.enable }
        ppu := { s.ppu with
          control := (s.writeByte a v).ppu.control
          scrollY := (s.writeByte a v).ppu.scrollY
          scrollX := (s.writeByte a v).ppu.scrollX }
        draws := (s.writeByte a v).draws
        diags := (s.writeByte a v).diags }

/-- 20_memory.md R83–R87, R89, R94: the five aliased registers are written and read whole, and the store does nothing else; no
read can observe a store to FF04 or FF44. -/
def Obligations.SpecialAddressesStoreAsTheirRulesSay : Prop :=
  ∀ (s : State) (v : Byte),
    (s.readByte 0xFF0F = s.intr.pending ∧ s.readByte 0xFF40 = s.ppu.control ∧ s.readByte 0xFF42 = s.ppu.scrollY ∧
      s.readByte 0xFF43 = s.ppu.scrollX ∧ s.readByte 0xFFFF = s.intr.enable) ∧
    (s.writeByte 0xFF0F v = { s with intr := { s.intr with pending := v } } ∧ (s.writeByte 0xFF0F v).readByte 0xFF0F = v) ∧
    (s.writeByte 0xFF40 v = { s with ppu := { s.ppu with control := v } } ∧ (s.writeByte 0xFF40 v).readByte 0xFF40 = v) ∧
    (s.writeByte 0xFF42 v = { s with ppu := { s.ppu with scrollY := v } } ∧ (s.writeByte 0xFF42 v).readByte 0xFF42 = v) ∧
    (s.writeByte 0xFF43 v = { s with ppu := { s.ppu with scrollX := v } } ∧ (s.writeByte 0xFF43 v).readByte 0xFF43 = v) ∧
    (s.writeByte 0xFFFF v = { s with intr := { s.intr with enable := v } } ∧ (s.writeByte 0xFFFF v).readByte 0xFFFF = v) ∧
    (s.writeByte 0xFF04 v = { s with io := s.io.set 0x04 v } ∧ ∀ b : Word, (s.writeByte 0xFF04 v).readByte b = s.readByte b) ∧
    (s.writeByte 0xFF44 v = { s with io := s.io.set 0x44 v } ∧ ∀ b : Word, (s.writeByte 0xFF44 v).readByte b = s.readByte b)

/-- 20_memory.md R90, R91: a store of `v` to FF46 is read back there, and copies the 160 bytes from `v << 8`, each read through
the bus, into OAM, ascending; FF04's byte is the draw of its turn (the model's form, DESIGN CHOICE, log 4). No other byte
changes. -/
def Obligations.DmaCopiesAPage : Prop :=
  ∀ (s : State) (v : Byte) (t s1 : State), Memory.wf s.mem → t = s.writeByte 0xFF46 v →
    s1 = { s with io := s.io.set 0x46 v } →
    t.readByte 0xFF46 = v ∧
    (∀ i : Nat, i < 160 → BitVec.ofNat 16 (256 * v.toNat + i) ≠ 0xFF04 →
      t.readByte (BitVec.ofNat 16 (0xFE00 + i)) = s1.readByte (BitVec.ofNat 16 (256 * v.toNat + i))) ∧
    (v = 0xFF → t.readByte 0xFE04 = Config.divDraw (s.draws + (if s.joypadWired then 1 else 0))) ∧
    OnlyStores s1 t [0xFF46] ∧
    t = { s with mem := t.mem, io := s1.io, draws := t.draws, diags := t.diags }

/-- 20_memory.md R96, R97, R100: a 16-bit access is two byte accesses, the low byte first, at `a` and `a + 1` modulo 2^16; in
plain storage the word and both its bytes read back. -/
def Obligations.WordAccessIsTwoByteAccesses : Prop :=
  ∀ (s : State) (a v : Word),
    (s.readShort a).toNat = 256 * ((s.afterRead a).readByte (a + 1)).toNat + (s.readByte a).toNat ∧
    s.writeShort a v = (s.writeByte a (BitVec.ofNat 8 v.toNat)).writeByte (a + 1) (BitVec.ofNat 8 (v.toNat / 256)) ∧
    (Memory.wf s.mem → PlainStorage a → PlainStorage (a + 1) →
      (s.writeShort a v).readShort a = v ∧
      (s.writeShort a v).readByte a = BitVec.ofNat 8 v.toNat ∧
      (s.writeShort a v).readByte (a + 1) = BitVec.ofNat 8 (v.toNat / 256))

/-- 20_memory.md R99: a push followed by a pop returns the value and leaves `sp`, provided the stack is plain storage. -/
def Obligations.PushThenPopReturnsTheValue : Prop :=
  ∀ (s : State) (v : Word), Memory.wf s.mem → PlainStorage (s.regs.sp - 2) → PlainStorage (s.regs.sp - 1) →
    (s.pushWord v).popValue = v ∧ (s.pushWord v).afterPop.regs = s.regs

/-! ### The step -/

/-- 30_encoding.md R127, 60_exceptions.md R365: when the bytes at `pc` decode to an instruction that does not trap, the step
runs it with those bytes read and `pc` past them, adds the base cost, then runs the pixel-timing and the interrupt step. -/
def Obligations.StepRunsTheDecodedInstruction : Prop :=
  ∀ (s u : State) (i : Instr), Runs s → s.params.traps s.fetchedOpcode = false →
    decode s.fetchedBytes = .ok (i, []) → exec i s.atHandler = .next u → u.run = .running →
    step s = .next (intStep (ppuStep (u.addTicks (s.params.baseCost s.fetchedBytes))))

/-- 30_encoding.md R127: the bytes come from `pc` on, each read through the bus after the ones before; the handler's state has
them read and `pc` advanced by 1 + width, and is otherwise as it was (but for the model's count of free values and the
diagnostics, log 4 and log 7). -/
def Obligations.FetchReadsTheBytesAtPc : Prop :=
  ∀ s : State,
    (operandWidth (s.readByte s.regs.pc) = 0 → s.fetchedBytes = [s.readByte s.regs.pc]) ∧
    (operandWidth (s.readByte s.regs.pc) = 1 →
      s.fetchedBytes = [s.readByte s.regs.pc, (s.afterRead s.regs.pc).readByte (s.regs.pc + 1)]) ∧
    (operandWidth (s.readByte s.regs.pc) = 2 →
      s.fetchedBytes = [s.readByte s.regs.pc, (s.afterRead s.regs.pc).readByte (s.regs.pc + 1),
        ((s.afterRead s.regs.pc).afterRead (s.regs.pc + 1)).readByte (s.regs.pc + 2)]) ∧
    s.atHandler =
      { s with
        regs := { s.regs with pc := BitVec.ofNat 16 (s.regs.pc.toNat + 1 + operandWidth (s.readByte s.regs.pc)) }
        draws := s.atHandler.draws
        diags := s.atHandler.diags }

/-- 30_encoding.md R128, 60_exceptions.md R377: while stopped the CPU step changes nothing, the other two agents run, and the
latch stays set. -/
def Obligations.StoppedStepRunsOnlyTheOtherAgents : Prop :=
  ∀ s : State, s.cartridge = .loaded → s.run = .running → s.stopped = true →
    cpuStep s = .next s ∧ step s = .next (intStep (ppuStep s)) ∧ (intStep (ppuStep s)).stopped = true

/-- 30_encoding.md R129, R132, R133, 45_system.md R345, 60_exceptions.md R360–R362: which opcodes trap; a trap ends the
iteration in the fault, its record holding the opcode's address, the opcode, its width and every register as before the
instruction; a faulted machine gives the same fault again, until reset. (That the CPU step answers a next state with `run`
Faulted, behind the fault of the step, is the model's reading, DEDUCED: log 11.) -/
def Obligations.TrapFaultsWithEveryRegister : Prop :=
  (∀ (p : Params) (op : Byte), p.traps op = true ↔
    op ∈ ([0xD3, 0xDB, 0xDD, 0xE3, 0xE4, 0xEB, 0xEC, 0xED, 0xF4, 0xFC, 0xFD] : List Byte) ∨
      p.implemented.getLsbD op.toNat = false) ∧
  (∀ s : State, Runs s → s.params.traps (s.readByte s.regs.pc) = true →
    let record : FaultRecord :=
      { code := 1, addr := s.regs.pc, opcode := s.readByte s.regs.pc, width := operandWidth (s.readByte s.regs.pc),
        regs := s.regs }
    step s = .fault (.illegalOpcode record) ∧ ∃ t, cpuStep s = .next t ∧ t.run = .faulted record) ∧
  (∀ (s : State) (r : FaultRecord), s.cartridge = .loaded → s.run = .faulted r →
    step s = .fault (.illegalOpcode r) ∧ s.resetAction.run = .running)

/-- 70_reset_and_hazards.md R423, R424: an image of 384 to 32768 bytes becomes the ROM, other memory as it was; any other image,
or an unreadable one, fails and the core never starts stepping. (That a later load clears a failed one's mark, and that a
refusal comes before a fault, are the model's choices, log 8; the newest diagnostic stands first, log 7.) -/
def Obligations.LoadRomSucceedsOrTheCoreNeverSteps : Prop :=
  (∀ (s : State) (bytes : List Byte), 384 ≤ bytes.length → bytes.length ≤ 32768 →
    (s.loadRom (some bytes)).romLen = bytes.length ∧
    (∀ (k : Nat) (h : k < bytes.length), (s.loadRom (some bytes)).mem.read k = bytes[k]) ∧
    (∀ k : Nat, 0x8000 ≤ k → (s.loadRom (some bytes)).mem.read k = s.mem.read k) ∧
    (s.loadRom (some bytes)).diags = .cartridge ((bytes.drop 0x134).take 16) (bytes.getD 0x147 0x00) :: s.diags ∧
    (s.loadRom (some bytes)).cartridge = .loaded) ∧
  (∀ (s : State) (bytes : List Byte), bytes.length < 384 ∨ 32768 < bytes.length →
    step (s.loadRom (some bytes)) = .refused .cartridgeLoadFailed) ∧
  (∀ s : State, step (s.loadRom none) = .refused .cartridgeLoadFailed) ∧
  step State.reset = .refused .noCartridge

/-- 30_encoding.md R131: an instruction other than the jumps, calls, returns, restarts and traps advances `pc` by exactly
1 + width. -/
def Obligations.PcAdvancesByOnePlusWidth : Prop :=
  (∀ (s : State) (i : Instr), ¬ WritesPc i → ∃ t, exec i s = .next t ∧ t.regs.pc = s.regs.pc) ∧
  (∀ (s t : State) (i : Instr) (rest : List Byte), s.stopped = false → s.params.traps s.fetchedOpcode = false →
    decode s.fetchedBytes = .ok (i, rest) → ¬ WritesPc i → cpuStep s = .next t →
    t.regs.pc = BitVec.ofNat 16 (s.regs.pc.toNat + 1 + operandWidth (s.readByte s.regs.pc)))

/-- 30_encoding.md R130: an instruction adds `TICKS[op]`, and `CB_TICKS[n]` after the prefix, to `ticks`; only the conditional
jumps, calls and returns add more, and a trap adds nothing. (That the CPU step answers the trap as a next state is the model's
reading, DEDUCED: log 11.) -/
def Obligations.CostIsTheTableEntry : Prop :=
  (∀ (s t : State) (i : Instr) (rest : List Byte), s.stopped = false → s.params.traps s.fetchedOpcode = false →
    decode s.fetchedBytes = .ok (i, rest) → ¬ HasVariableCost i → cpuStep s = .next t →
    t.ticks = s.ticks + s.params.ticks[(s.readByte s.regs.pc).toFin] +
      (if s.readByte s.regs.pc = 0xCB then
        s.params.cbTicks[((s.afterRead s.regs.pc).readByte (s.regs.pc + 1)).toFin]
      else 0)) ∧
  (∀ s t : State, s.stopped = false → s.params.traps s.fetchedOpcode = true → cpuStep s = .next t → t.ticks = s.ticks)

/-- `exec` answers a next state for every instruction, and none touches the ROM, the cartridge, the parameters or the pixel-timing
counters (20_memory.md R74, 10_state.md R46). (For the eleven illegal opcodes that next state is the trap's, with `run` Faulted,
behind which the step answers the fault: the model's reading of R362, DEDUCED: log 11.) -/
def Obligations.EveryInstructionCompletes : Prop :=
  ∀ (i : Instr) (s : State), ∃ t, exec i s = .next t ∧ t.romLen = s.romLen ∧
    (∀ k : Nat, k < 0x8000 → t.mem.read k = s.mem.read k) ∧ t.cartridge = s.cartridge ∧ t.params = s.params ∧
    t.joypadWired = s.joypadWired ∧ t.ppu.scanline = s.ppu.scanline ∧ t.ppu.tick = s.ppu.tick ∧ t.ppu.mode = s.ppu.mode ∧
    t.ppu.lastTicks = s.ppu.lastTicks ∧ s.ticks ≤ t.ticks

/-! ### Interrupts -/

/-- 60_exceptions.md R370–R373: the interrupt step dispatches exactly when `master` is 1 and some source is active, and then
the lowest active one: its pending bit and `master` cleared, `pc` pushed, `pc` at its vector, 12 cycles added. -/
def Obligations.DispatchTakesTheLowestActiveSource : Prop :=
  (∀ s : State, (s.intr.master = false ∨ active s = 0x00) → intStep s = s) ∧
  (∀ s : State, s.intr.master = true → active s ≠ 0x00 →
    ∃ i : Nat, i < 5 ∧ (active s).getLsbD i = true ∧ ∀ j : Nat, j < i → (active s).getLsbD j = false) ∧
  (∀ (s cleared after : State) (i : Nat), s.intr.master = true → i < 5 → (active s).getLsbD i = true →
    (∀ j : Nat, j < i → (active s).getLsbD j = false) →
    cleared =
      { s with intr := { s.intr with master := false, pending := s.intr.pending &&& ~~~(BitVec.ofNat 8 (2 ^ i)) } } →
    after = pushed cleared (BitVec.ofNat 8 (s.regs.pc.toNat / 256)) (BitVec.ofNat 8 s.regs.pc.toNat) →
    intStep s =
      { after with
        regs := { s.regs with sp := s.regs.sp - 2, pc := BitVec.ofNat 16 (0x40 + 8 * i) }
        ticks := s.ticks + 12 } ∧
    OnlyStores s (intStep s) (0xFF0F :: pushAddresses s))

/-- 60_exceptions.md R375: RETI right after a dispatch restores `pc`, `sp` and `master`, provided the stack is plain storage. -/
def Obligations.RetiUndoesADispatch : Prop :=
  ∀ (s : State) (i : Nat), Memory.wf s.mem → PlainStorage (s.regs.sp - 2) → PlainStorage (s.regs.sp - 1) →
    ∃ t, exec .reti (dispatchInterrupt i s) = .next t ∧ t.regs = s.regs ∧ t.intr.master = true

/-! ### The pixel-timing unit -/

/-- 60_exceptions.md R380–R385: one pixel-timing step: the new cycles are added, and at most one threshold is crossed, with
the next line, mode and VBLANK request of each mode. -/
def Obligations.PixelTimingCrossesOneThreshold : Prop :=
  ∀ (s : State) (total : Nat), total = s.ppu.tick + (s.ticks - s.ppu.lastTicks) →
    (s.ppu.mode = .oam → 80 ≤ total →
      ppuStep s = { s with ppu := { s.ppu with tick := total - 80, mode := .vram, lastTicks := s.ticks } }) ∧
    (s.ppu.mode = .vram → 172 ≤ total →
      ppuStep s = { s with ppu := { s.ppu with tick := total - 172, mode := .hblank, lastTicks := s.ticks } }) ∧
    (s.ppu.mode = .hblank → 204 ≤ total → s.ppu.scanline + 1 ≠ 144 →
      ppuStep s =
        { s with ppu := { s.ppu with
            tick := total - 204, mode := .oam, scanline := s.ppu.scanline + 1, lastTicks := s.ticks } }) ∧
    (s.ppu.mode = .hblank → 204 ≤ total → s.ppu.scanline + 1 = 144 →
      ppuStep s =
        { s with
          ppu := { s.ppu with tick := total - 204, mode := .vblank, scanline := 144, lastTicks := s.ticks }
          intr := { s.intr with
            pending := if s.intr.enable.getLsbD 0 then s.intr.pending ||| 0x01 else s.intr.pending } }) ∧
    (s.ppu.mode = .vblank → 456 ≤ total → s.ppu.scanline + 1 ≤ 153 →
      ppuStep s =
        { s with ppu := { s.ppu with tick := total - 456, scanline := s.ppu.scanline + 1, lastTicks := s.ticks } }) ∧
    (s.ppu.mode = .vblank → 456 ≤ total → 153 < s.ppu.scanline + 1 →
      ppuStep s =
        { s with ppu := { s.ppu with tick := total - 456, scanline := 0, mode := .oam, lastTicks := s.ticks } }) ∧
    (total < (match s.ppu.mode with | .oam => 80 | .vram => 172 | .hblank => 204 | .vblank => 456) →
      ppuStep s = { s with ppu := { s.ppu with tick := total, lastTicks := s.ticks } })

/-- 60_exceptions.md R386: the unit ignores `control`, `scrollX` and `scrollY`, and writes no register, memory byte or clock. -/
def Obligations.PixelTimingIgnoresTheDisplayRegisters : Prop :=
  ∀ (s : State) (c y x : Byte),
    ppuStep { s with ppu := { s.ppu with control := c, scrollY := y, scrollX := x } } =
      { ppuStep s with ppu := { (ppuStep s).ppu with control := c, scrollY := y, scrollX := x } } ∧
    ppuStep s = { s with ppu := (ppuStep s).ppu, intr := { s.intr with pending := (ppuStep s).intr.pending } }

/-! ### Invariants of the step and whole-machine rules -/

/-- Every step keeps the invariant: the memory's canonical form and its addresses, the zero low nibble of `f`, the line in
the range of its mode, the unit not ahead of the clock, a legal image. (The canonical form is the model's, log 10.) -/
def Obligations.StepKeepsGood : Prop :=
  ∀ s t : State, s.Good → step s = .next t → t.Good

/-- The host's actions keep it too. (What a failed load leaves and what the reset action keeps are the model's choices,
log 8.) -/
def Obligations.HostActionsKeepGood : Prop :=
  ∀ (s : State) (image : Option (List Byte)) (wired : Bool), s.Good →
    (s.loadRom image).Good ∧ s.resetAction.Good ∧ s.wake.Good ∧ (s.wireJoypad wired).Good

/-- 20_memory.md R74, R110, 10_state.md R40: no step changes a ROM byte, the image's length or the parameters, and the clock
never goes back. -/
def Obligations.StepsNeverChangeTheRom : Prop :=
  ∀ s t : State, step s = .next t →
    t.romLen = s.romLen ∧ (∀ k : Nat, k < 0x8000 → t.mem.read k = s.mem.read k) ∧ t.params = s.params ∧
      t.cartridge = s.cartridge ∧ s.ticks ≤ t.ticks

/-- 10_state.md R38: STOP is the only instruction that sets the latch, and no step clears it. -/
def Obligations.OnlyStopSetsTheLatch : Prop :=
  ∀ s t : State, step s = .next t →
    (s.stopped = true → t.stopped = true) ∧
    (s.stopped = false → t.stopped = true → s.readByte s.regs.pc = 0x10)

/-- 60_exceptions.md R369: `master` is set only by EI and RETI, and cleared only by DI and by a dispatch. -/
def Obligations.MasterChangesOnlyByItsRules : Prop :=
  ∀ s t : State, step s = .next t →
    (s.intr.master = false → t.intr.master = true → s.stopped = false ∧ s.readByte s.regs.pc ∈ ([0xFB, 0xD9] : List Byte)) ∧
    (s.intr.master = true → t.intr.master = false →
      (s.stopped = false ∧ s.readByte s.regs.pc = 0xF3) ∨
        ∃ u i, i < 5 ∧ u.intr.master = true ∧ t = dispatchInterrupt i u)

/-! ### Loads, stores and the stack -/

/-- 40_load.md R160–R164: LD r,r', LD r,n, LD r,(HL), LD (HL),r, LD (HL),n. (The slot of LD (HL),(HL) is HALT, 45_system.md
R341.) -/
def Obligations.ByteLoadForms : Prop :=
  ∀ (s : State) (dst r : Operand8) (n : Byte),
    (dst ≠ .indHl ∨ r ≠ .indHl →
      Does (Instr.loadForm dst r) [0x40 + 8 * registerCode dst + registerCode r] s
        (putOperand (afterValue s r) dst (valueOf s r)) (storedBy s dst)) ∧
    Does (Instr.loadImmForm n dst) [0x06 + 8 * registerCode dst, n] s (putOperand s dst n) (storedBy s dst)

/-- 40_load.md R165, R166, R169, R171, R173: the accumulator from memory. -/
def Obligations.AccumulatorLoads : Prop :=
  ∀ (s : State) (n : Byte) (nn : Word),
    let from_ (a : Word) : State := { s.afterRead a with regs := { s.regs with a := s.readByte a } }
    Does .ldAIndBc [0x0A] s (from_ (BitVec.ofNat 16 (pairValue s .bc))) [] ∧
    Does .ldAIndDe [0x1A] s (from_ (BitVec.ofNat 16 (pairValue s .de))) [] ∧
    Does (.ldAIndNn nn) (0xFA :: wordBytes nn) s (from_ nn) [] ∧
    Does (.ldhAIndN n) [0xF0, n] s (from_ (pageFF n)) [] ∧
    Does .ldAIndC [0xF2] s (from_ (pageFF s.regs.c)) []

/-- 40_load.md R167, R168, R170, R172, R174: the accumulator to memory. -/
def Obligations.AccumulatorStores : Prop :=
  ∀ (s : State) (n : Byte) (nn : Word),
    let stores (i : Instr) (bytes : List Byte) (a : Word) : Prop := Does i bytes s (s.writeByte a s.regs.a) [a]
    stores .ldIndBcA [0x02] (BitVec.ofNat 16 (pairValue s .bc)) ∧
    stores .ldIndDeA [0x12] (BitVec.ofNat 16 (pairValue s .de)) ∧
    stores (.ldIndNnA nn) (0xEA :: wordBytes nn) nn ∧
    stores (.ldhIndNA n) [0xE0, n] (pageFF n) ∧
    stores .ldIndCA [0xE2] (pageFF s.regs.c)

/-- 40_load.md R175–R178: the accumulator through `hl`, which is then incremented or decremented modulo 2^16. -/
def Obligations.AccumulatorThroughSteppedHl : Prop :=
  ∀ s : State,
    let up := setPairTo s.regs .hl (pairValue s .hl + 1)
    let down := setPairTo s.regs .hl (pairValue s .hl + 0xFFFF)
    Does .ldIndHlIncA [0x22] s { s.writeByte (hlOf s) s.regs.a with regs := up } [hlOf s] ∧
    Does .ldIndHlDecA [0x32] s { s.writeByte (hlOf s) s.regs.a with regs := down } [hlOf s] ∧
    Does .ldAIndHlInc [0x2A] s { s.afterRead (hlOf s) with regs := { up with a := s.readByte (hlOf s) } } [] ∧
    Does .ldAIndHlDec [0x3A] s { s.afterRead (hlOf s) with regs := { down with a := s.readByte (hlOf s) } } []

/-- 40_load.md R179–R181: LD rr,nn, LD (nn),SP, LD SP,HL. -/
def Obligations.WordLoads : Prop :=
  ∀ (s : State) (nn : Word),
    (∀ p : Pair, Does (Instr.loadPairForm nn p) ((0x01 + 16 * pairCode p) :: wordBytes nn) s
      { s with regs := setPairTo s.regs p nn.toNat } []) ∧
    Does (.ldIndNnSp nn) (0x08 :: wordBytes nn) s
      ((s.writeByte nn (BitVec.ofNat 8 s.regs.sp.toNat)).writeByte (nn + 1) (BitVec.ofNat 8 (s.regs.sp.toNat / 256)))
      [nn, nn + 1] ∧
    Does .ldSpHl [0xF9] s { s with regs := { s.regs with sp := hlOf s } } []

/-- 40_load.md R182: PUSH rr stores the low byte at `sp - 2` and the high byte at `sp - 1`. -/
def Obligations.PushStoresAPair : Prop :=
  ∀ (s : State) (p : StackPair),
    Does (Instr.pushForm p) [0xC5 + 16 * stackPairCode p] s (pushed s (stackPairBytes s p).1 (stackPairBytes s p).2)
      (pushAddresses s)

/-- 40_load.md R183, R184: POP rr; POP AF stores the low byte in `f` without its low nibble. -/
def Obligations.PopLoadsAPair : Prop :=
  ∀ (s : State) (p : StackPair),
    Does (Instr.popForm p) [0xC1 + 16 * stackPairCode p] s
      { popped s with regs := setStackPairTo (popped s).regs p (popHigh s) (popLow s) } []

/-! ### 8-bit arithmetic and logic -/

/-- 41_alu8.md R200, R207–R212: ADD and ADC on r, (HL) and n. -/
def Obligations.AddAndAdcForms : Prop :=
  ∀ (s : State) (r : Operand8) (n : Byte),
    Does (Instr.aluForm .add r) [0x80 + registerCode r] s (added s (afterValue s r) (valueOf s r) 0) [] ∧
    Does (Instr.aluImmForm n .add) [0xC6, n] s (added s s n 0) [] ∧
    Does (Instr.aluForm .adc r) [0x88 + registerCode r] s (added s (afterValue s r) (valueOf s r) (carryIn s)) [] ∧
    Does (Instr.aluImmForm n .adc) [0xCE, n] s (added s s n (carryIn s)) []

/-- 41_alu8.md R201, R204, R213–R218, R228–R230: SUB, SBC and CP on r, (HL) and n; CP leaves `a` as it was. -/
def Obligations.SubSbcAndCpForms : Prop :=
  ∀ (s : State) (r : Operand8) (n : Byte),
    Does (Instr.aluForm .sub r) [0x90 + registerCode r] s (subtracted s (afterValue s r) (valueOf s r) 0) [] ∧
    Does (Instr.aluImmForm n .sub) [0xD6, n] s (subtracted s s n 0) [] ∧
    Does (Instr.aluForm .sbc r) [0x98 + registerCode r] s (subtracted s (afterValue s r) (valueOf s r) (carryIn s)) [] ∧
    Does (Instr.aluImmForm n .sbc) [0xDE, n] s (subtracted s s n (carryIn s)) [] ∧
    Does (Instr.aluForm .cp r) [0xB8 + registerCode r] s (compared s (afterValue s r) (valueOf s r)) [] ∧
    Does (Instr.aluImmForm n .cp) [0xFE, n] s (compared s s n) []

/-- 41_alu8.md R202, R203, R219–R227: AND, XOR and OR on r, (HL) and n; H is 1 after AND only. -/
def Obligations.LogicForms : Prop :=
  ∀ (s : State) (r : Operand8) (n : Byte),
    Does (Instr.aluForm .and r) [0xA0 + registerCode r] s (logical s (afterValue s r) (s.regs.a &&& valueOf s r) true) [] ∧
    Does (Instr.aluImmForm n .and) [0xE6, n] s (logical s s (s.regs.a &&& n) true) [] ∧
    Does (Instr.aluForm .xor r) [0xA8 + registerCode r] s (logical s (afterValue s r) (s.regs.a ^^^ valueOf s r) false) [] ∧
    Does (Instr.aluImmForm n .xor) [0xEE, n] s (logical s s (s.regs.a ^^^ n) false) [] ∧
    Does (Instr.aluForm .or r) [0xB0 + registerCode r] s (logical s (afterValue s r) (s.regs.a ||| valueOf s r) false) [] ∧
    Does (Instr.aluImmForm n .or) [0xF6, n] s (logical s s (s.regs.a ||| n) false) []

/-- 41_alu8.md R205, R206, R231–R234: INC and DEC on r and (HL); C is left alone. -/
def Obligations.IncrementAndDecrementForms : Prop :=
  ∀ (s : State) (r : Operand8),
    Does (Instr.incForm r) [0x04 + 8 * registerCode r] s (incremented s r) (storedBy s r) ∧
    Does (Instr.decForm r) [0x05 + 8 * registerCode r] s (decremented s r) (storedBy s r)

/-- 41_alu8.md R235–R238: DAA, CPL, SCF, CCF. -/
def Obligations.AccumulatorAndFlagOperations : Prop :=
  ∀ s : State,
    let d := decimalAdjusted s.regs.a.toNat (nOf s) (hOf s) (cOf s)
    Does .daa [0x27] s
      { s with regs := { s.regs with a := BitVec.ofNat 8 d.1, f := flagByte (decide (d.1 = 0)) (nOf s) false d.2 } } [] ∧
    Does .cpl [0x2F] s
      { s with regs := { s.regs with
          a := BitVec.ofNat 8 (255 - s.regs.a.toNat), f := flagByte (zOf s) true true (cOf s) } } [] ∧
    Does .scf [0x37] s { s with regs := { s.regs with f := flagByte (zOf s) false false true } } [] ∧
    Does .ccf [0x3F] s { s with regs := { s.regs with f := flagByte (zOf s) false false (!cOf s) } } []

/-- 41_alu8.md R235: DAA makes ADD and SUB decimal: after adding or subtracting two two-digit BCD numbers it leaves the BCD of
the sum or difference modulo 100, with C the decimal carry or borrow. -/
def Obligations.DaaMakesArithmeticDecimal : Prop :=
  ∀ (s : State) (x y : Nat), x < 100 → y < 100 → s.regs.a = bcd x →
    (∃ t u, exec (.addAN (bcd y)) s = .next t ∧ exec .daa t = .next u ∧
      u.regs.a = bcd ((x + y) % 100) ∧ cOf u = decide (100 ≤ x + y)) ∧
    (∃ t u, exec (.subN (bcd y)) s = .next t ∧ exec .daa t = .next u ∧
      u.regs.a = bcd ((x + 100 - y) % 100) ∧ cOf u = decide (x < y))

/-! ### 16-bit arithmetic -/

/-- 42_alu16.md R250, R251: INC rr and DEC rr modulo 2^16, no flag. -/
def Obligations.PairIncrementAndDecrement : Prop :=
  ∀ (s : State) (p : Pair),
    Does (Instr.incPairForm p) [0x03 + 16 * pairCode p] s
      { s with regs := setPairTo s.regs p ((pairValue s p + 1) % 65536) } [] ∧
    Does (Instr.decPairForm p) [0x0B + 16 * pairCode p] s
      { s with regs := setPairTo s.regs p ((pairValue s p + 65535) % 65536) } []

/-- 42_alu16.md R252: ADD HL,rr, with H out of bit 11 and C out of bit 15; Z is left alone. -/
def Obligations.AddHlForms : Prop :=
  ∀ (s : State) (p : Pair),
    let sum := pairValue s .hl + pairValue s p
    let f := flagByte (zOf s) false (decide (pairValue s .hl % 4096 + pairValue s p % 4096 > 4095)) (decide (sum > 65535))
    Does (Instr.addHlForm p) [0x09 + 16 * pairCode p] s
      { s with regs := setPairTo { s.regs with f := f } .hl (sum % 65536) } []

/-- 42_alu16.md R253, R254: ADD SP,e and LD HL,SP+e: a signed displacement, H and C from the unsigned low byte. -/
def Obligations.StackPointerOffsets : Prop :=
  ∀ (s : State) (e : Byte),
    let f := flagByte false false (decide (s.regs.sp.toNat % 16 + e.toNat % 16 > 15))
      (decide (s.regs.sp.toNat % 256 + e.toNat > 255))
    let target := BitVec.ofInt 16 ((s.regs.sp.toNat : Int) + signed e)
    Does (.addSpE e) [0xE8, e] s { s with regs := { s.regs with f := f, sp := target } } [] ∧
    Does (.ldHlSpE e) [0xF8, e] s { s with regs := setPairTo { s.regs with f := f } .hl target.toNat } []

/-! ### Rotates, shifts and bits -/

/-- 43_rotate_shift_bit.md R270–R273, R297: RLCA, RRCA, RLA, RRA: the CB form's result and C, Z always 0. -/
def Obligations.AccumulatorRotates : Prop :=
  ∀ (s : State) (op : ShiftOp) (i : Instr) (opcode : Byte),
    (op, i, opcode) ∈ [(ShiftOp.rlc, Instr.rlca, 0x07), (.rrc, .rrca, 0x0F), (.rl, .rla, 0x17), (.rr, .rra, 0x1F)] →
    let out := shifted op s.regs.a.toNat (carryIn s)
    Does i [opcode] s
      { s with regs := { s.regs with a := BitVec.ofNat 8 out.1, f := flagByte false false false out.2 } } []

/-- 43_rotate_shift_bit.md R275–R282: RLC, RRC, RL and RR on r and (HL): the result, C, and Z from the result. -/
def Obligations.RotateForms : Prop :=
  ∀ (s : State) (op : ShiftOp) (r : Operand8), op ∈ [ShiftOp.rlc, .rrc, .rl, .rr] →
    let out := shifted op (valueOf s r).toNat (carryIn s)
    let u := afterValue s r
    Does (Instr.shiftForm op r) [0xCB, 8 * shiftCode op + registerCode r] s
      (putOperand { u with regs := { s.regs with f := flagByte (decide (out.1 = 0)) false false out.2 } } r
        (BitVec.ofNat 8 out.1))
      (storedBy s r)

/-- 43_rotate_shift_bit.md R283–R290: SLA, SRA, SWAP and SRL on r and (HL): the result, C, and Z from the result. -/
def Obligations.ShiftForms : Prop :=
  ∀ (s : State) (op : ShiftOp) (r : Operand8), op ∈ [ShiftOp.sla, .sra, .swap, .srl] →
    let out := shifted op (valueOf s r).toNat (carryIn s)
    let u := afterValue s r
    Does (Instr.shiftForm op r) [0xCB, 8 * shiftCode op + registerCode r] s
      (putOperand { u with regs := { s.regs with f := flagByte (decide (out.1 = 0)) false false out.2 } } r
        (BitVec.ofNat 8 out.1))
      (storedBy s r)

/-- 43_rotate_shift_bit.md R291–R296: BIT b, RES b and SET b on r and (HL): BIT writes only Z, N and H; RES and SET write one
bit and no flag. -/
def Obligations.BitForms : Prop :=
  ∀ (s : State) (b : Fin 8) (r : Operand8),
    let v := (valueOf s r).toNat
    let u := afterValue s r
    Does (Instr.bitForm b r) [0xCB, 0x40 + 8 * bitCode b + registerCode r] s
      { u with regs := { s.regs with f := flagByte (!v.testBit b) false true (cOf s) } } [] ∧
    Does (Instr.resForm b r) [0xCB, 0x80 + 8 * bitCode b + registerCode r] s
      (putOperand u r (BitVec.ofNat 8 (if v.testBit b then v - 2 ^ b.val else v))) (storedBy s r) ∧
    Does (Instr.setForm b r) [0xCB, 0xC0 + 8 * bitCode b + registerCode r] s
      (putOperand u r (BitVec.ofNat 8 (if v.testBit b then v else v + 2 ^ b.val))) (storedBy s r)

/-! ### Control transfer -/

/-- 44_control.md R310–R314: the jumps; a taken conditional adds its `TAKEN_EXTRA`, an untaken one changes nothing. -/
def Obligations.JumpForms : Prop :=
  ∀ (s : State) (cc : Cond) (e : Byte) (nn : Word),
    let near := BitVec.ofInt 16 ((s.regs.pc.toNat : Int) + signed e)
    Does (.jpNn nn) (0xC3 :: wordBytes nn) s { s with regs := { s.regs with pc := nn } } [] ∧
    Does .jpHl [0xE9] s { s with regs := { s.regs with pc := hlOf s } } [] ∧
    Does (.jrE e) [0x18, e] s { s with regs := { s.regs with pc := near } } [] ∧
    Does (Instr.jumpIfForm nn cc) ((0xC2 + 8 * condCode cc) :: wordBytes nn) s
      (if condHolds s cc then
        { s with regs := { s.regs with pc := nn }, ticks := s.ticks + s.params.takenJp }
      else s) [] ∧
    Does (Instr.jumpRelativeIfForm e cc) [0x20 + 8 * condCode cc, e] s
      (if condHolds s cc then
        { s with regs := { s.regs with pc := near }, ticks := s.ticks + s.params.takenJr }
      else s) []

/-- 44_control.md R315, R316, R320: CALL, CALL cc and RST push `pc` and jump. -/
def Obligations.CallForms : Prop :=
  ∀ (s : State) (cc : Cond) (nn : Word) (k : Fin 8),
    let stacked := pushed s (BitVec.ofNat 8 (s.regs.pc.toNat / 256)) (BitVec.ofNat 8 s.regs.pc.toNat)
    let called (target : Word) : State :=
      { stacked with regs := { s.regs with sp := s.regs.sp - 2, pc := target } }
    Does (.callNn nn) (0xCD :: wordBytes nn) s (called nn) (pushAddresses s) ∧
    Does (Instr.restartForm k) [0xC7 + 8 * bitCode k] s (called (BitVec.ofNat 16 (8 * k.val))) (pushAddresses s) ∧
    Does (Instr.callIfForm nn cc) ((0xC4 + 8 * condCode cc) :: wordBytes nn) s
      (if condHolds s cc then { called nn with ticks := s.ticks + s.params.takenCall } else s)
      (if condHolds s cc then pushAddresses s else [])

/-- 44_control.md R317–R319: RET, RET cc and RETI pop `pc`; RETI also sets `master`. -/
def Obligations.ReturnForms : Prop :=
  ∀ (s : State) (cc : Cond),
    let returned : State := { popped s with regs := { (popped s).regs with pc := poppedWord s } }
    Does .ret [0xC9] s returned [] ∧
    Does (Instr.returnIfForm cc) [0xC0 + 8 * condCode cc] s
      (if condHolds s cc then { returned with ticks := s.ticks + s.params.takenRet } else s) [] ∧
    Does .reti [0xD9] s { returned with intr := { s.intr with master := true } } []

/-! ### System instructions and the trap -/

/-- 45_system.md R340–R344: NOP and HALT change nothing, STOP sets the latch, DI and EI write `master` at once. -/
def Obligations.SystemForms : Prop :=
  ∀ (s : State) (n : Byte),
    Does .nop [0x00] s s [] ∧
    Does .halt [0x76] s s [] ∧
    Does (.stop n) [0x10, n] s { s with stopped := true } [] ∧
    Does .di [0xF3] s { s with intr := { s.intr with master := false } } [] ∧
    Does .ei [0xFB] s { s with intr := { s.intr with master := true } } []

/-- 45_system.md R345: the trap: `pc` back at the opcode, the record with every register, `run` Faulted, the fault reported,
and nothing else; and it is the whole meaning of each illegal opcode, with width 0. (That `exec` answers the trap as a next state
is the model's reading, DEDUCED: log 11; the newest diagnostic stands first, log 7.) -/
def Obligations.IllegalOpcodesTakeTheTrap : Prop :=
  (∀ (s : State) (opcode : Byte) (w : Nat),
    let regs := { s.regs with pc := s.regs.pc - 1 - BitVec.ofNat 16 w }
    let record : FaultRecord :=
      { code := 1, addr := s.regs.pc - 1 - BitVec.ofNat 16 w, opcode := opcode, width := w, regs := regs }
    takeIllegalOpcode opcode w s = { s with regs := regs, run := .faulted record, diags := .fault record :: s.diags }) ∧
  ∀ (s : State) (k : Fin 11) (opcode : Byte),
    [0xD3, 0xDB, 0xDD, 0xE3, 0xE4, 0xEB, 0xEC, 0xED, 0xF4, 0xFC, 0xFD][k.val]? = some opcode →
    let regs := { s.regs with pc := s.regs.pc - 1 }
    let record : FaultRecord := { code := 1, addr := s.regs.pc - 1, opcode := opcode, width := 0, regs := regs }
    Does (Instr.illegalForm k) [opcode] s
      { s with regs := regs, run := .faulted record, diags := .fault record :: s.diags } []

/-! ### High RAM -/

/-- 00_scope.md R14, 10_state.md R50, 20_memory.md R93, R94: hram has 128 bytes, and the enable register hides the last one: no
read of any address depends on it, and no step changes it. (Its home at 0xFFFF is the model's, log 10.) -/
def Obligations.HighRamLastByteIsOutOfReach : Prop :=
  ∀ (s t : State) (v : Byte) (a : Word),
    ({ s with mem := s.mem.write 0xFFFF v } : State).readByte a = s.readByte a ∧
    (step s = .next t → t.mem.read 0xFFFF = s.mem.read 0xFFFF)
end

