-- ==== Sys2Proof/Laws/Memory.lean ====
section
/-! SUPPORT. The laws of the sparse store: reading after writing, and the canonical form kept. -/

namespace Sys2Proof.Machine

@[simp] theorem Memory.read_nil (k : Nat) : Memory.read [] k = Memory.unlisted := rfl

theorem Memory.wf_nil : Memory.wf [] := by
  simp [Memory.wf]

theorem Memory.wf_tail {c : Host.Cell} {m : Memory} (h : Memory.wf (c :: m)) : Memory.wf m :=
  ⟨(List.pairwise_cons.1 h.1).2, fun x hx => h.2 x (List.mem_cons_of_mem _ hx)⟩

theorem Memory.head_lt {c : Host.Cell} {m : Memory} (h : Memory.wf (c :: m)) : ∀ x ∈ m, c.1 < x.1 :=
  (List.pairwise_cons.1 h.1).1

/-- A key below every listed key reads as unlisted. -/
theorem Memory.read_of_lt {m : Memory} {k : Nat} (h : ∀ x ∈ m, k < x.1) : m.read k = Memory.unlisted := by
  induction m with
  | nil => rfl
  | cons c m ih =>
    obtain ⟨k', v'⟩ := c
    have hk : k < k' := h _ List.mem_cons_self
    simp only [Memory.read, if_neg (Nat.ne_of_gt hk)]
    exact ih fun x hx => h x (List.mem_cons_of_mem _ hx)

/-- Reading the byte just written. -/
theorem Memory.read_write_self {m : Memory} (h : Memory.wf m) (k : Nat) (v : Byte) : (m.write k v).read k = v := by
  induction m with
  | nil => by_cases hv : v = Memory.unlisted <;> simp [Memory.write, Memory.read, hv]
  | cons c m ih =>
    obtain ⟨k', v'⟩ := c
    have hlt := Memory.head_lt h
    simp only [Memory.write]
    split
    next hk =>
      split
      next hv =>
        rw [hv]
        exact Memory.read_of_lt fun x hx => by
          rcases List.mem_cons.1 hx with rfl | hx
          · exact hk
          · exact Nat.lt_trans hk (hlt x hx)
      next => simp [Memory.read]
    next hk =>
      split
      next he =>
        subst he
        split
        next hv => rw [hv]; exact Memory.read_of_lt hlt
        next => simp [Memory.read]
      next he =>
        simp only [Memory.read, if_neg (Ne.symm he)]
        exact ih (Memory.wf_tail h)

/-- Writing a byte leaves every other byte. -/
theorem Memory.read_write_ne (m : Memory) {j k : Nat} (hj : j ≠ k) (v : Byte) : (m.write k v).read j = m.read j := by
  induction m with
  | nil => by_cases hv : v = Memory.unlisted <;> simp [Memory.write, Memory.read, hv, Ne.symm hj]
  | cons c m ih =>
    obtain ⟨k', v'⟩ := c
    simp only [Memory.write]
    split
    · split
      · rfl
      · simp [Memory.read, Ne.symm hj]
    · split
      next he =>
        subst he
        split <;> simp [Memory.read, Ne.symm hj]
      next => simp only [Memory.read, ih]

/-- What a written store lists: the written byte, and what was listed. -/
theorem Memory.mem_write {m : Memory} {k : Nat} {v : Byte} {c : Host.Cell} (h : c ∈ m.write k v) :
    c ∈ m ∨ (c = (k, v) ∧ v ≠ Memory.unlisted) := by
  induction m with
  | nil =>
    by_cases hv : v = Memory.unlisted <;> simp_all [Memory.write]
  | cons d m ih =>
    obtain ⟨k', v'⟩ := d
    simp only [Memory.write] at h
    split at h
    · split at h
      · exact .inl h
      next hv =>
        rcases List.mem_cons.1 h with rfl | h
        · exact .inr ⟨rfl, hv⟩
        · exact .inl h
    · split at h
      · split at h
        · exact .inl (List.mem_cons_of_mem _ h)
        next hv =>
          rcases List.mem_cons.1 h with rfl | h
          · exact .inr ⟨rfl, hv⟩
          · exact .inl (List.mem_cons_of_mem _ h)
      · rcases List.mem_cons.1 h with rfl | h
        · exact .inl List.mem_cons_self
        · rcases ih h with h | h
          · exact .inl (List.mem_cons_of_mem _ h)
          · exact .inr h

/-- A write keeps the canonical form. -/
theorem Memory.write_wf {m : Memory} (h : Memory.wf m) (k : Nat) (v : Byte) : Memory.wf (m.write k v) := by
  refine ⟨?_, fun c hc => ?_⟩
  · induction m with
    | nil => by_cases hv : v = Memory.unlisted <;> simp [Memory.write, hv]
    | cons c m ih =>
      obtain ⟨k', v'⟩ := c
      have hlt := Memory.head_lt h
      have htail := Memory.wf_tail h
      simp only [Memory.write]
      split
      next hk =>
        split
        · exact h.1
        · refine List.pairwise_cons.2 ⟨fun x hx => ?_, h.1⟩
          rcases List.mem_cons.1 hx with rfl | hx
          · exact hk
          · exact Nat.lt_trans hk (hlt x hx)
      next hk =>
        split
        next he =>
          subst he
          split
          · exact htail.1
          · exact List.pairwise_cons.2 ⟨hlt, htail.1⟩
        next he =>
          refine List.pairwise_cons.2 ⟨fun x hx => ?_, ih htail⟩
          rcases Memory.mem_write hx with hx | ⟨rfl, -⟩
          · exact hlt x hx
          · exact Nat.lt_of_le_of_ne (Nat.le_of_not_lt hk) (Ne.symm he)
  · rcases Memory.mem_write hc with hc | ⟨rfl, hv⟩
    · exact h.2 c hc
    · exact hv

end Sys2Proof.Machine
end

