-- ==== Sys2Proof/Laws/State.lean ====
section
/-! SUPPORT. What each named update of State does to each field: one lemma per field per update, so that no later proof
unfolds a record update. -/

namespace Sys2Proof.Machine

@[simp] theorem State.setPc_regs (s : State) (v : Word) : (s.setPc v).regs = { s.regs with pc := v } := rfl
@[simp] theorem State.setPc_stopped (s : State) (v : Word) : (s.setPc v).stopped = s.stopped := rfl
@[simp] theorem State.setPc_run (s : State) (v : Word) : (s.setPc v).run = s.run := rfl
@[simp] theorem State.setPc_ticks (s : State) (v : Word) : (s.setPc v).ticks = s.ticks := rfl
@[simp] theorem State.setPc_intr (s : State) (v : Word) : (s.setPc v).intr = s.intr := rfl
@[simp] theorem State.setPc_ppu (s : State) (v : Word) : (s.setPc v).ppu = s.ppu := rfl
@[simp] theorem State.setPc_mem (s : State) (v : Word) : (s.setPc v).mem = s.mem := rfl
@[simp] theorem State.setPc_io (s : State) (v : Word) : (s.setPc v).io = s.io := rfl
@[simp] theorem State.setPc_cartridge (s : State) (v : Word) : (s.setPc v).cartridge = s.cartridge := rfl
@[simp] theorem State.setPc_romLen (s : State) (v : Word) : (s.setPc v).romLen = s.romLen := rfl
@[simp] theorem State.setPc_params (s : State) (v : Word) : (s.setPc v).params = s.params := rfl
@[simp] theorem State.setPc_joypadWired (s : State) (v : Word) : (s.setPc v).joypadWired = s.joypadWired := rfl
@[simp] theorem State.setPc_draws (s : State) (v : Word) : (s.setPc v).draws = s.draws := rfl
@[simp] theorem State.setPc_diags (s : State) (v : Word) : (s.setPc v).diags = s.diags := rfl

@[simp] theorem State.setSp_regs (s : State) (v : Word) : (s.setSp v).regs = { s.regs with sp := v } := rfl
@[simp] theorem State.setSp_stopped (s : State) (v : Word) : (s.setSp v).stopped = s.stopped := rfl
@[simp] theorem State.setSp_run (s : State) (v : Word) : (s.setSp v).run = s.run := rfl
@[simp] theorem State.setSp_ticks (s : State) (v : Word) : (s.setSp v).ticks = s.ticks := rfl
@[simp] theorem State.setSp_intr (s : State) (v : Word) : (s.setSp v).intr = s.intr := rfl
@[simp] theorem State.setSp_ppu (s : State) (v : Word) : (s.setSp v).ppu = s.ppu := rfl
@[simp] theorem State.setSp_mem (s : State) (v : Word) : (s.setSp v).mem = s.mem := rfl
@[simp] theorem State.setSp_io (s : State) (v : Word) : (s.setSp v).io = s.io := rfl
@[simp] theorem State.setSp_cartridge (s : State) (v : Word) : (s.setSp v).cartridge = s.cartridge := rfl
@[simp] theorem State.setSp_romLen (s : State) (v : Word) : (s.setSp v).romLen = s.romLen := rfl
@[simp] theorem State.setSp_params (s : State) (v : Word) : (s.setSp v).params = s.params := rfl
@[simp] theorem State.setSp_joypadWired (s : State) (v : Word) : (s.setSp v).joypadWired = s.joypadWired := rfl
@[simp] theorem State.setSp_draws (s : State) (v : Word) : (s.setSp v).draws = s.draws := rfl
@[simp] theorem State.setSp_diags (s : State) (v : Word) : (s.setSp v).diags = s.diags := rfl

@[simp] theorem State.setA_regs (s : State) (v : Byte) : (s.setA v).regs = { s.regs with a := v } := rfl
@[simp] theorem State.setA_stopped (s : State) (v : Byte) : (s.setA v).stopped = s.stopped := rfl
@[simp] theorem State.setA_run (s : State) (v : Byte) : (s.setA v).run = s.run := rfl
@[simp] theorem State.setA_ticks (s : State) (v : Byte) : (s.setA v).ticks = s.ticks := rfl
@[simp] theorem State.setA_intr (s : State) (v : Byte) : (s.setA v).intr = s.intr := rfl
@[simp] theorem State.setA_ppu (s : State) (v : Byte) : (s.setA v).ppu = s.ppu := rfl
@[simp] theorem State.setA_mem (s : State) (v : Byte) : (s.setA v).mem = s.mem := rfl
@[simp] theorem State.setA_io (s : State) (v : Byte) : (s.setA v).io = s.io := rfl
@[simp] theorem State.setA_cartridge (s : State) (v : Byte) : (s.setA v).cartridge = s.cartridge := rfl
@[simp] theorem State.setA_romLen (s : State) (v : Byte) : (s.setA v).romLen = s.romLen := rfl
@[simp] theorem State.setA_params (s : State) (v : Byte) : (s.setA v).params = s.params := rfl
@[simp] theorem State.setA_joypadWired (s : State) (v : Byte) : (s.setA v).joypadWired = s.joypadWired := rfl
@[simp] theorem State.setA_draws (s : State) (v : Byte) : (s.setA v).draws = s.draws := rfl
@[simp] theorem State.setA_diags (s : State) (v : Byte) : (s.setA v).diags = s.diags := rfl

@[simp] theorem State.setF_regs (s : State) (v : Byte) : (s.setF v).regs = { s.regs with f := v &&& 0xF0 } := rfl
@[simp] theorem State.setF_stopped (s : State) (v : Byte) : (s.setF v).stopped = s.stopped := rfl
@[simp] theorem State.setF_run (s : State) (v : Byte) : (s.setF v).run = s.run := rfl
@[simp] theorem State.setF_ticks (s : State) (v : Byte) : (s.setF v).ticks = s.ticks := rfl
@[simp] theorem State.setF_intr (s : State) (v : Byte) : (s.setF v).intr = s.intr := rfl
@[simp] theorem State.setF_ppu (s : State) (v : Byte) : (s.setF v).ppu = s.ppu := rfl
@[simp] theorem State.setF_mem (s : State) (v : Byte) : (s.setF v).mem = s.mem := rfl
@[simp] theorem State.setF_io (s : State) (v : Byte) : (s.setF v).io = s.io := rfl
@[simp] theorem State.setF_cartridge (s : State) (v : Byte) : (s.setF v).cartridge = s.cartridge := rfl
@[simp] theorem State.setF_romLen (s : State) (v : Byte) : (s.setF v).romLen = s.romLen := rfl
@[simp] theorem State.setF_params (s : State) (v : Byte) : (s.setF v).params = s.params := rfl
@[simp] theorem State.setF_joypadWired (s : State) (v : Byte) : (s.setF v).joypadWired = s.joypadWired := rfl
@[simp] theorem State.setF_draws (s : State) (v : Byte) : (s.setF v).draws = s.draws := rfl
@[simp] theorem State.setF_diags (s : State) (v : Byte) : (s.setF v).diags = s.diags := rfl

@[simp] theorem State.setFlags_regs (s : State) (fl : FlagBits) : (s.setFlags fl).regs = { s.regs with f := packFlags fl &&& 0xF0 } := rfl
@[simp] theorem State.setFlags_stopped (s : State) (fl : FlagBits) : (s.setFlags fl).stopped = s.stopped := rfl
@[simp] theorem State.setFlags_run (s : State) (fl : FlagBits) : (s.setFlags fl).run = s.run := rfl
@[simp] theorem State.setFlags_ticks (s : State) (fl : FlagBits) : (s.setFlags fl).ticks = s.ticks := rfl
@[simp] theorem State.setFlags_intr (s : State) (fl : FlagBits) : (s.setFlags fl).intr = s.intr := rfl
@[simp] theorem State.setFlags_ppu (s : State) (fl : FlagBits) : (s.setFlags fl).ppu = s.ppu := rfl
@[simp] theorem State.setFlags_mem (s : State) (fl : FlagBits) : (s.setFlags fl).mem = s.mem := rfl
@[simp] theorem State.setFlags_io (s : State) (fl : FlagBits) : (s.setFlags fl).io = s.io := rfl
@[simp] theorem State.setFlags_cartridge (s : State) (fl : FlagBits) : (s.setFlags fl).cartridge = s.cartridge := rfl
@[simp] theorem State.setFlags_romLen (s : State) (fl : FlagBits) : (s.setFlags fl).romLen = s.romLen := rfl
@[simp] theorem State.setFlags_params (s : State) (fl : FlagBits) : (s.setFlags fl).params = s.params := rfl
@[simp] theorem State.setFlags_joypadWired (s : State) (fl : FlagBits) : (s.setFlags fl).joypadWired = s.joypadWired := rfl
@[simp] theorem State.setFlags_draws (s : State) (fl : FlagBits) : (s.setFlags fl).draws = s.draws := rfl
@[simp] theorem State.setFlags_diags (s : State) (fl : FlagBits) : (s.setFlags fl).diags = s.diags := rfl

@[simp] theorem State.addTicks_regs (s : State) (n : Nat) : (s.addTicks n).regs = s.regs := rfl
@[simp] theorem State.addTicks_stopped (s : State) (n : Nat) : (s.addTicks n).stopped = s.stopped := rfl
@[simp] theorem State.addTicks_run (s : State) (n : Nat) : (s.addTicks n).run = s.run := rfl
@[simp] theorem State.addTicks_ticks (s : State) (n : Nat) : (s.addTicks n).ticks = s.ticks + n := rfl
@[simp] theorem State.addTicks_intr (s : State) (n : Nat) : (s.addTicks n).intr = s.intr := rfl
@[simp] theorem State.addTicks_ppu (s : State) (n : Nat) : (s.addTicks n).ppu = s.ppu := rfl
@[simp] theorem State.addTicks_mem (s : State) (n : Nat) : (s.addTicks n).mem = s.mem := rfl
@[simp] theorem State.addTicks_io (s : State) (n : Nat) : (s.addTicks n).io = s.io := rfl
@[simp] theorem State.addTicks_cartridge (s : State) (n : Nat) : (s.addTicks n).cartridge = s.cartridge := rfl
@[simp] theorem State.addTicks_romLen (s : State) (n : Nat) : (s.addTicks n).romLen = s.romLen := rfl
@[simp] theorem State.addTicks_params (s : State) (n : Nat) : (s.addTicks n).params = s.params := rfl
@[simp] theorem State.addTicks_joypadWired (s : State) (n : Nat) : (s.addTicks n).joypadWired = s.joypadWired := rfl
@[simp] theorem State.addTicks_draws (s : State) (n : Nat) : (s.addTicks n).draws = s.draws := rfl
@[simp] theorem State.addTicks_diags (s : State) (n : Nat) : (s.addTicks n).diags = s.diags := rfl

@[simp] theorem State.setStopped_regs (s : State) (b : Bool) : (s.setStopped b).regs = s.regs := rfl
@[simp] theorem State.setStopped_stopped (s : State) (b : Bool) : (s.setStopped b).stopped = b := rfl
@[simp] theorem State.setStopped_run (s : State) (b : Bool) : (s.setStopped b).run = s.run := rfl
@[simp] theorem State.setStopped_ticks (s : State) (b : Bool) : (s.setStopped b).ticks = s.ticks := rfl
@[simp] theorem State.setStopped_intr (s : State) (b : Bool) : (s.setStopped b).intr = s.intr := rfl
@[simp] theorem State.setStopped_ppu (s : State) (b : Bool) : (s.setStopped b).ppu = s.ppu := rfl
@[simp] theorem State.setStopped_mem (s : State) (b : Bool) : (s.setStopped b).mem = s.mem := rfl
@[simp] theorem State.setStopped_io (s : State) (b : Bool) : (s.setStopped b).io = s.io := rfl
@[simp] theorem State.setStopped_cartridge (s : State) (b : Bool) : (s.setStopped b).cartridge = s.cartridge := rfl
@[simp] theorem State.setStopped_romLen (s : State) (b : Bool) : (s.setStopped b).romLen = s.romLen := rfl
@[simp] theorem State.setStopped_params (s : State) (b : Bool) : (s.setStopped b).params = s.params := rfl
@[simp] theorem State.setStopped_joypadWired (s : State) (b : Bool) : (s.setStopped b).joypadWired = s.joypadWired := rfl
@[simp] theorem State.setStopped_draws (s : State) (b : Bool) : (s.setStopped b).draws = s.draws := rfl
@[simp] theorem State.setStopped_diags (s : State) (b : Bool) : (s.setStopped b).diags = s.diags := rfl

@[simp] theorem State.setRun_regs (s : State) (r : RunState) : (s.setRun r).regs = s.regs := rfl
@[simp] theorem State.setRun_stopped (s : State) (r : RunState) : (s.setRun r).stopped = s.stopped := rfl
@[simp] theorem State.setRun_run (s : State) (r : RunState) : (s.setRun r).run = r := rfl
@[simp] theorem State.setRun_ticks (s : State) (r : RunState) : (s.setRun r).ticks = s.ticks := rfl
@[simp] theorem State.setRun_intr (s : State) (r : RunState) : (s.setRun r).intr = s.intr := rfl
@[simp] theorem State.setRun_ppu (s : State) (r : RunState) : (s.setRun r).ppu = s.ppu := rfl
@[simp] theorem State.setRun_mem (s : State) (r : RunState) : (s.setRun r).mem = s.mem := rfl
@[simp] theorem State.setRun_io (s : State) (r : RunState) : (s.setRun r).io = s.io := rfl
@[simp] theorem State.setRun_cartridge (s : State) (r : RunState) : (s.setRun r).cartridge = s.cartridge := rfl
@[simp] theorem State.setRun_romLen (s : State) (r : RunState) : (s.setRun r).romLen = s.romLen := rfl
@[simp] theorem State.setRun_params (s : State) (r : RunState) : (s.setRun r).params = s.params := rfl
@[simp] theorem State.setRun_joypadWired (s : State) (r : RunState) : (s.setRun r).joypadWired = s.joypadWired := rfl
@[simp] theorem State.setRun_draws (s : State) (r : RunState) : (s.setRun r).draws = s.draws := rfl
@[simp] theorem State.setRun_diags (s : State) (r : RunState) : (s.setRun r).diags = s.diags := rfl

@[simp] theorem State.setMaster_regs (s : State) (b : Bool) : (s.setMaster b).regs = s.regs := rfl
@[simp] theorem State.setMaster_stopped (s : State) (b : Bool) : (s.setMaster b).stopped = s.stopped := rfl
@[simp] theorem State.setMaster_run (s : State) (b : Bool) : (s.setMaster b).run = s.run := rfl
@[simp] theorem State.setMaster_ticks (s : State) (b : Bool) : (s.setMaster b).ticks = s.ticks := rfl
@[simp] theorem State.setMaster_intr (s : State) (b : Bool) : (s.setMaster b).intr = { s.intr with master := b } := rfl
@[simp] theorem State.setMaster_ppu (s : State) (b : Bool) : (s.setMaster b).ppu = s.ppu := rfl
@[simp] theorem State.setMaster_mem (s : State) (b : Bool) : (s.setMaster b).mem = s.mem := rfl
@[simp] theorem State.setMaster_io (s : State) (b : Bool) : (s.setMaster b).io = s.io := rfl
@[simp] theorem State.setMaster_cartridge (s : State) (b : Bool) : (s.setMaster b).cartridge = s.cartridge := rfl
@[simp] theorem State.setMaster_romLen (s : State) (b : Bool) : (s.setMaster b).romLen = s.romLen := rfl
@[simp] theorem State.setMaster_params (s : State) (b : Bool) : (s.setMaster b).params = s.params := rfl
@[simp] theorem State.setMaster_joypadWired (s : State) (b : Bool) : (s.setMaster b).joypadWired = s.joypadWired := rfl
@[simp] theorem State.setMaster_draws (s : State) (b : Bool) : (s.setMaster b).draws = s.draws := rfl
@[simp] theorem State.setMaster_diags (s : State) (b : Bool) : (s.setMaster b).diags = s.diags := rfl

@[simp] theorem State.setEnable_regs (s : State) (v : Byte) : (s.setEnable v).regs = s.regs := rfl
@[simp] theorem State.setEnable_stopped (s : State) (v : Byte) : (s.setEnable v).stopped = s.stopped := rfl
@[simp] theorem State.setEnable_run (s : State) (v : Byte) : (s.setEnable v).run = s.run := rfl
@[simp] theorem State.setEnable_ticks (s : State) (v : Byte) : (s.setEnable v).ticks = s.ticks := rfl
@[simp] theorem State.setEnable_intr (s : State) (v : Byte) : (s.setEnable v).intr = { s.intr with enable := v } := rfl
@[simp] theorem State.setEnable_ppu (s : State) (v : Byte) : (s.setEnable v).ppu = s.ppu := rfl
@[simp] theorem State.setEnable_mem (s : State) (v : Byte) : (s.setEnable v).mem = s.mem := rfl
@[simp] theorem State.setEnable_io (s : State) (v : Byte) : (s.setEnable v).io = s.io := rfl
@[simp] theorem State.setEnable_cartridge (s : State) (v : Byte) : (s.setEnable v).cartridge = s.cartridge := rfl
@[simp] theorem State.setEnable_romLen (s : State) (v : Byte) : (s.setEnable v).romLen = s.romLen := rfl
@[simp] theorem State.setEnable_params (s : State) (v : Byte) : (s.setEnable v).params = s.params := rfl
@[simp] theorem State.setEnable_joypadWired (s : State) (v : Byte) : (s.setEnable v).joypadWired = s.joypadWired := rfl
@[simp] theorem State.setEnable_draws (s : State) (v : Byte) : (s.setEnable v).draws = s.draws := rfl
@[simp] theorem State.setEnable_diags (s : State) (v : Byte) : (s.setEnable v).diags = s.diags := rfl

@[simp] theorem State.setPending_regs (s : State) (v : Byte) : (s.setPending v).regs = s.regs := rfl
@[simp] theorem State.setPending_stopped (s : State) (v : Byte) : (s.setPending v).stopped = s.stopped := rfl
@[simp] theorem State.setPending_run (s : State) (v : Byte) : (s.setPending v).run = s.run := rfl
@[simp] theorem State.setPending_ticks (s : State) (v : Byte) : (s.setPending v).ticks = s.ticks := rfl
@[simp] theorem State.setPending_intr (s : State) (v : Byte) : (s.setPending v).intr = { s.intr with pending := v } := rfl
@[simp] theorem State.setPending_ppu (s : State) (v : Byte) : (s.setPending v).ppu = s.ppu := rfl
@[simp] theorem State.setPending_mem (s : State) (v : Byte) : (s.setPending v).mem = s.mem := rfl
@[simp] theorem State.setPending_io (s : State) (v : Byte) : (s.setPending v).io = s.io := rfl
@[simp] theorem State.setPending_cartridge (s : State) (v : Byte) : (s.setPending v).cartridge = s.cartridge := rfl
@[simp] theorem State.setPending_romLen (s : State) (v : Byte) : (s.setPending v).romLen = s.romLen := rfl
@[simp] theorem State.setPending_params (s : State) (v : Byte) : (s.setPending v).params = s.params := rfl
@[simp] theorem State.setPending_joypadWired (s : State) (v : Byte) : (s.setPending v).joypadWired = s.joypadWired := rfl
@[simp] theorem State.setPending_draws (s : State) (v : Byte) : (s.setPending v).draws = s.draws := rfl
@[simp] theorem State.setPending_diags (s : State) (v : Byte) : (s.setPending v).diags = s.diags := rfl

@[simp] theorem State.setControl_regs (s : State) (v : Byte) : (s.setControl v).regs = s.regs := rfl
@[simp] theorem State.setControl_stopped (s : State) (v : Byte) : (s.setControl v).stopped = s.stopped := rfl
@[simp] theorem State.setControl_run (s : State) (v : Byte) : (s.setControl v).run = s.run := rfl
@[simp] theorem State.setControl_ticks (s : State) (v : Byte) : (s.setControl v).ticks = s.ticks := rfl
@[simp] theorem State.setControl_intr (s : State) (v : Byte) : (s.setControl v).intr = s.intr := rfl
@[simp] theorem State.setControl_ppu (s : State) (v : Byte) : (s.setControl v).ppu = { s.ppu with control := v } := rfl
@[simp] theorem State.setControl_mem (s : State) (v : Byte) : (s.setControl v).mem = s.mem := rfl
@[simp] theorem State.setControl_io (s : State) (v : Byte) : (s.setControl v).io = s.io := rfl
@[simp] theorem State.setControl_cartridge (s : State) (v : Byte) : (s.setControl v).cartridge = s.cartridge := rfl
@[simp] theorem State.setControl_romLen (s : State) (v : Byte) : (s.setControl v).romLen = s.romLen := rfl
@[simp] theorem State.setControl_params (s : State) (v : Byte) : (s.setControl v).params = s.params := rfl
@[simp] theorem State.setControl_joypadWired (s : State) (v : Byte) : (s.setControl v).joypadWired = s.joypadWired := rfl
@[simp] theorem State.setControl_draws (s : State) (v : Byte) : (s.setControl v).draws = s.draws := rfl
@[simp] theorem State.setControl_diags (s : State) (v : Byte) : (s.setControl v).diags = s.diags := rfl

@[simp] theorem State.setScrollY_regs (s : State) (v : Byte) : (s.setScrollY v).regs = s.regs := rfl
@[simp] theorem State.setScrollY_stopped (s : State) (v : Byte) : (s.setScrollY v).stopped = s.stopped := rfl
@[simp] theorem State.setScrollY_run (s : State) (v : Byte) : (s.setScrollY v).run = s.run := rfl
@[simp] theorem State.setScrollY_ticks (s : State) (v : Byte) : (s.setScrollY v).ticks = s.ticks := rfl
@[simp] theorem State.setScrollY_intr (s : State) (v : Byte) : (s.setScrollY v).intr = s.intr := rfl
@[simp] theorem State.setScrollY_ppu (s : State) (v : Byte) : (s.setScrollY v).ppu = { s.ppu with scrollY := v } := rfl
@[simp] theorem State.setScrollY_mem (s : State) (v : Byte) : (s.setScrollY v).mem = s.mem := rfl
@[simp] theorem State.setScrollY_io (s : State) (v : Byte) : (s.setScrollY v).io = s.io := rfl
@[simp] theorem State.setScrollY_cartridge (s : State) (v : Byte) : (s.setScrollY v).cartridge = s.cartridge := rfl
@[simp] theorem State.setScrollY_romLen (s : State) (v : Byte) : (s.setScrollY v).romLen = s.romLen := rfl
@[simp] theorem State.setScrollY_params (s : State) (v : Byte) : (s.setScrollY v).params = s.params := rfl
@[simp] theorem State.setScrollY_joypadWired (s : State) (v : Byte) : (s.setScrollY v).joypadWired = s.joypadWired := rfl
@[simp] theorem State.setScrollY_draws (s : State) (v : Byte) : (s.setScrollY v).draws = s.draws := rfl
@[simp] theorem State.setScrollY_diags (s : State) (v : Byte) : (s.setScrollY v).diags = s.diags := rfl

@[simp] theorem State.setScrollX_regs (s : State) (v : Byte) : (s.setScrollX v).regs = s.regs := rfl
@[simp] theorem State.setScrollX_stopped (s : State) (v : Byte) : (s.setScrollX v).stopped = s.stopped := rfl
@[simp] theorem State.setScrollX_run (s : State) (v : Byte) : (s.setScrollX v).run = s.run := rfl
@[simp] theorem State.setScrollX_ticks (s : State) (v : Byte) : (s.setScrollX v).ticks = s.ticks := rfl
@[simp] theorem State.setScrollX_intr (s : State) (v : Byte) : (s.setScrollX v).intr = s.intr := rfl
@[simp] theorem State.setScrollX_ppu (s : State) (v : Byte) : (s.setScrollX v).ppu = { s.ppu with scrollX := v } := rfl
@[simp] theorem State.setScrollX_mem (s : State) (v : Byte) : (s.setScrollX v).mem = s.mem := rfl
@[simp] theorem State.setScrollX_io (s : State) (v : Byte) : (s.setScrollX v).io = s.io := rfl
@[simp] theorem State.setScrollX_cartridge (s : State) (v : Byte) : (s.setScrollX v).cartridge = s.cartridge := rfl
@[simp] theorem State.setScrollX_romLen (s : State) (v : Byte) : (s.setScrollX v).romLen = s.romLen := rfl
@[simp] theorem State.setScrollX_params (s : State) (v : Byte) : (s.setScrollX v).params = s.params := rfl
@[simp] theorem State.setScrollX_joypadWired (s : State) (v : Byte) : (s.setScrollX v).joypadWired = s.joypadWired := rfl
@[simp] theorem State.setScrollX_draws (s : State) (v : Byte) : (s.setScrollX v).draws = s.draws := rfl
@[simp] theorem State.setScrollX_diags (s : State) (v : Byte) : (s.setScrollX v).diags = s.diags := rfl

@[simp] theorem State.setMem_regs (s : State) (k : Nat) (v : Byte) : (s.setMem k v).regs = s.regs := rfl
@[simp] theorem State.setMem_stopped (s : State) (k : Nat) (v : Byte) : (s.setMem k v).stopped = s.stopped := rfl
@[simp] theorem State.setMem_run (s : State) (k : Nat) (v : Byte) : (s.setMem k v).run = s.run := rfl
@[simp] theorem State.setMem_ticks (s : State) (k : Nat) (v : Byte) : (s.setMem k v).ticks = s.ticks := rfl
@[simp] theorem State.setMem_intr (s : State) (k : Nat) (v : Byte) : (s.setMem k v).intr = s.intr := rfl
@[simp] theorem State.setMem_ppu (s : State) (k : Nat) (v : Byte) : (s.setMem k v).ppu = s.ppu := rfl
@[simp] theorem State.setMem_mem (s : State) (k : Nat) (v : Byte) : (s.setMem k v).mem = s.mem.write k v := rfl
@[simp] theorem State.setMem_io (s : State) (k : Nat) (v : Byte) : (s.setMem k v).io = s.io := rfl
@[simp] theorem State.setMem_cartridge (s : State) (k : Nat) (v : Byte) : (s.setMem k v).cartridge = s.cartridge := rfl
@[simp] theorem State.setMem_romLen (s : State) (k : Nat) (v : Byte) : (s.setMem k v).romLen = s.romLen := rfl
@[simp] theorem State.setMem_params (s : State) (k : Nat) (v : Byte) : (s.setMem k v).params = s.params := rfl
@[simp] theorem State.setMem_joypadWired (s : State) (k : Nat) (v : Byte) : (s.setMem k v).joypadWired = s.joypadWired := rfl
@[simp] theorem State.setMem_draws (s : State) (k : Nat) (v : Byte) : (s.setMem k v).draws = s.draws := rfl
@[simp] theorem State.setMem_diags (s : State) (k : Nat) (v : Byte) : (s.setMem k v).diags = s.diags := rfl

@[simp] theorem State.setIo_regs (s : State) (i : Fin 256) (v : Byte) : (s.setIo i v).regs = s.regs := rfl
@[simp] theorem State.setIo_stopped (s : State) (i : Fin 256) (v : Byte) : (s.setIo i v).stopped = s.stopped := rfl
@[simp] theorem State.setIo_run (s : State) (i : Fin 256) (v : Byte) : (s.setIo i v).run = s.run := rfl
@[simp] theorem State.setIo_ticks (s : State) (i : Fin 256) (v : Byte) : (s.setIo i v).ticks = s.ticks := rfl
@[simp] theorem State.setIo_intr (s : State) (i : Fin 256) (v : Byte) : (s.setIo i v).intr = s.intr := rfl
@[simp] theorem State.setIo_ppu (s : State) (i : Fin 256) (v : Byte) : (s.setIo i v).ppu = s.ppu := rfl
@[simp] theorem State.setIo_mem (s : State) (i : Fin 256) (v : Byte) : (s.setIo i v).mem = s.mem := rfl
@[simp] theorem State.setIo_io (s : State) (i : Fin 256) (v : Byte) : (s.setIo i v).io = s.io.set i v := rfl
@[simp] theorem State.setIo_cartridge (s : State) (i : Fin 256) (v : Byte) : (s.setIo i v).cartridge = s.cartridge := rfl
@[simp] theorem State.setIo_romLen (s : State) (i : Fin 256) (v : Byte) : (s.setIo i v).romLen = s.romLen := rfl
@[simp] theorem State.setIo_params (s : State) (i : Fin 256) (v : Byte) : (s.setIo i v).params = s.params := rfl
@[simp] theorem State.setIo_joypadWired (s : State) (i : Fin 256) (v : Byte) : (s.setIo i v).joypadWired = s.joypadWired := rfl
@[simp] theorem State.setIo_draws (s : State) (i : Fin 256) (v : Byte) : (s.setIo i v).draws = s.draws := rfl
@[simp] theorem State.setIo_diags (s : State) (i : Fin 256) (v : Byte) : (s.setIo i v).diags = s.diags := rfl

@[simp] theorem State.addDiag_regs (s : State) (d : Diag) : (s.addDiag d).regs = s.regs := rfl
@[simp] theorem State.addDiag_stopped (s : State) (d : Diag) : (s.addDiag d).stopped = s.stopped := rfl
@[simp] theorem State.addDiag_run (s : State) (d : Diag) : (s.addDiag d).run = s.run := rfl
@[simp] theorem State.addDiag_ticks (s : State) (d : Diag) : (s.addDiag d).ticks = s.ticks := rfl
@[simp] theorem State.addDiag_intr (s : State) (d : Diag) : (s.addDiag d).intr = s.intr := rfl
@[simp] theorem State.addDiag_ppu (s : State) (d : Diag) : (s.addDiag d).ppu = s.ppu := rfl
@[simp] theorem State.addDiag_mem (s : State) (d : Diag) : (s.addDiag d).mem = s.mem := rfl
@[simp] theorem State.addDiag_io (s : State) (d : Diag) : (s.addDiag d).io = s.io := rfl
@[simp] theorem State.addDiag_cartridge (s : State) (d : Diag) : (s.addDiag d).cartridge = s.cartridge := rfl
@[simp] theorem State.addDiag_romLen (s : State) (d : Diag) : (s.addDiag d).romLen = s.romLen := rfl
@[simp] theorem State.addDiag_params (s : State) (d : Diag) : (s.addDiag d).params = s.params := rfl
@[simp] theorem State.addDiag_joypadWired (s : State) (d : Diag) : (s.addDiag d).joypadWired = s.joypadWired := rfl
@[simp] theorem State.addDiag_draws (s : State) (d : Diag) : (s.addDiag d).draws = s.draws := rfl
@[simp] theorem State.addDiag_diags (s : State) (d : Diag) : (s.addDiag d).diags = d :: s.diags := rfl

@[simp] theorem State.addDraw_regs (s : State) : (s.addDraw).regs = s.regs := rfl
@[simp] theorem State.addDraw_stopped (s : State) : (s.addDraw).stopped = s.stopped := rfl
@[simp] theorem State.addDraw_run (s : State) : (s.addDraw).run = s.run := rfl
@[simp] theorem State.addDraw_ticks (s : State) : (s.addDraw).ticks = s.ticks := rfl
@[simp] theorem State.addDraw_intr (s : State) : (s.addDraw).intr = s.intr := rfl
@[simp] theorem State.addDraw_ppu (s : State) : (s.addDraw).ppu = s.ppu := rfl
@[simp] theorem State.addDraw_mem (s : State) : (s.addDraw).mem = s.mem := rfl
@[simp] theorem State.addDraw_io (s : State) : (s.addDraw).io = s.io := rfl
@[simp] theorem State.addDraw_cartridge (s : State) : (s.addDraw).cartridge = s.cartridge := rfl
@[simp] theorem State.addDraw_romLen (s : State) : (s.addDraw).romLen = s.romLen := rfl
@[simp] theorem State.addDraw_params (s : State) : (s.addDraw).params = s.params := rfl
@[simp] theorem State.addDraw_joypadWired (s : State) : (s.addDraw).joypadWired = s.joypadWired := rfl
@[simp] theorem State.addDraw_draws (s : State) : (s.addDraw).draws = s.draws + 1 := rfl
@[simp] theorem State.addDraw_diags (s : State) : (s.addDraw).diags = s.diags := rfl

end Sys2Proof.Machine
end

