-- ==== Sys2Proof/Laws/Bus.lean ====
section
/-! SUPPORT. What the bus operations do: the ranges of the decoder, what a read consumes, what a write leaves alone, and that
both keep the memory good and the ROM as it is. -/

namespace Sys2Proof.Machine

/-! ### The decoder -/

theorem busTarget_rom {a : Word} (h : a.toNat < 0x8000) : busTarget a = .rom a.toNat := by
  simp [busTarget, h]

/-- The address map, range by range (20_memory.md R72). -/
theorem busTarget_cases (a : Word) :
    (a.toNat < 0x8000 ∧ busTarget a = .rom a.toNat) ∨
    (0x8000 ≤ a.toNat ∧ a.toNat < 0xE000 ∧ busTarget a = .ram a.toNat) ∨
    (0xE000 ≤ a.toNat ∧ a.toNat < 0xFE00 ∧ busTarget a = .ram (a.toNat - 0x2000)) ∨
    (0xFE00 ≤ a.toNat ∧ a.toNat < 0xFF00 ∧ busTarget a = .ram a.toNat) ∨
    (a.toNat = 0xFF00 ∧ busTarget a = .joypad) ∨
    (a.toNat = 0xFF04 ∧ busTarget a = .divider) ∨
    (a.toNat = 0xFF0F ∧ busTarget a = .pending) ∨
    (a.toNat = 0xFF40 ∧ busTarget a = .control) ∨
    (a.toNat = 0xFF42 ∧ busTarget a = .scrollY) ∨
    (a.toNat = 0xFF43 ∧ busTarget a = .scrollX) ∨
    (a.toNat = 0xFF44 ∧ busTarget a = .scanline) ∨
    (a.toNat = 0xFF46 ∧ busTarget a = .dma) ∨
    (0xFF00 < a.toNat ∧ a.toNat < 0xFF80 ∧ a.toNat ≠ 0xFF04 ∧ a.toNat ≠ 0xFF0F ∧ a.toNat ≠ 0xFF40 ∧ a.toNat ≠ 0xFF42 ∧
      a.toNat ≠ 0xFF43 ∧ a.toNat ≠ 0xFF44 ∧ a.toNat ≠ 0xFF46 ∧
      busTarget a = .io (Fin.ofNat 256 (a.toNat - 0xFF00))) ∨
    (0xFF80 ≤ a.toNat ∧ a.toNat < 0xFFFF ∧ busTarget a = .ram a.toNat) ∨
    (a.toNat = 0xFFFF ∧ busTarget a = .enable) := by
  have := a.isLt
  unfold busTarget
  dsimp only
  grind (splits := 60)
/-- A RAM target is the home address of a RAM byte. -/
theorem busTarget_ram_home {a : Word} {k : Nat} (h : busTarget a = .ram k) :
    (0x8000 ≤ k ∧ k < 0xE000) ∨ (0xFE00 ≤ k ∧ k < 0xFF00) ∨ (0xFF80 ≤ k ∧ k < 0xFFFF) := by
  unfold busTarget at h
  grind (splits := 40)

/-- A generic I/O target is below 0x80 and none of the special addresses. -/
theorem busTarget_io_index {a : Word} {i : Fin 256} (h : busTarget a = .io i) :
    i.val < 0x80 ∧ i.val ≠ 0x00 ∧ i.val ≠ 0x04 ∧ i.val ≠ 0x44 ∧ i.val ≠ 0x46 := by
  unfold busTarget at h
  grind (splits := 40) [Fin.ofNat]

/-! ### What a read returns -/

/-- A read depends only on the stores, the aliased registers and the image; at FF00 and FF04 also on the free values used. -/
theorem readByte_congr {s t : State} {b : Word} (hm : t.mem = s.mem) (hi : t.io = s.io) (hn : t.intr = s.intr)
    (hp : t.ppu = s.ppu) (hq : t.params = s.params) (hr : t.romLen = s.romLen) (hj : t.joypadWired = s.joypadWired)
    (hd : (b.toNat ≠ 0xFF00 ∧ b.toNat ≠ 0xFF04) ∨ t.draws = s.draws) : t.readByte b = s.readByte b := by
  have hd' : busTarget b = .joypad ∨ busTarget b = .divider → t.draws = s.draws := by
    have := busTarget_cases b
    grind
  unfold State.readByte State.joypadByte
  rw [hm, hi, hn, hp, hq, hr, hj]
  split <;> first | rfl | rw [hd' (by simp [*])]

/-! ### What a read consumes -/

/-- A read leaves the state, consumes one free value, or emits one diagnostic. -/
theorem afterRead_cases (s : State) (a : Word) :
    s.afterRead a = s ∨ s.afterRead a = s.addDraw ∨ s.afterRead a = s.addDiag (.outOfRange a) := by
  unfold State.afterRead
  repeat' split
  all_goals simp

@[simp] theorem afterRead_regs (s : State) (a : Word) : (s.afterRead a).regs = s.regs := by
  rcases afterRead_cases s a with h | h | h <;> simp [h]

@[simp] theorem afterRead_stopped (s : State) (a : Word) : (s.afterRead a).stopped = s.stopped := by
  rcases afterRead_cases s a with h | h | h <;> simp [h]

@[simp] theorem afterRead_run (s : State) (a : Word) : (s.afterRead a).run = s.run := by
  rcases afterRead_cases s a with h | h | h <;> simp [h]

@[simp] theorem afterRead_ticks (s : State) (a : Word) : (s.afterRead a).ticks = s.ticks := by
  rcases afterRead_cases s a with h | h | h <;> simp [h]

@[simp] theorem afterRead_intr (s : State) (a : Word) : (s.afterRead a).intr = s.intr := by
  rcases afterRead_cases s a with h | h | h <;> simp [h]

@[simp] theorem afterRead_ppu (s : State) (a : Word) : (s.afterRead a).ppu = s.ppu := by
  rcases afterRead_cases s a with h | h | h <;> simp [h]

@[simp] theorem afterRead_mem (s : State) (a : Word) : (s.afterRead a).mem = s.mem := by
  rcases afterRead_cases s a with h | h | h <;> simp [h]

@[simp] theorem afterRead_io (s : State) (a : Word) : (s.afterRead a).io = s.io := by
  rcases afterRead_cases s a with h | h | h <;> simp [h]

@[simp] theorem afterRead_cartridge (s : State) (a : Word) : (s.afterRead a).cartridge = s.cartridge := by
  rcases afterRead_cases s a with h | h | h <;> simp [h]

@[simp] theorem afterRead_romLen (s : State) (a : Word) : (s.afterRead a).romLen = s.romLen := by
  rcases afterRead_cases s a with h | h | h <;> simp [h]

@[simp] theorem afterRead_params (s : State) (a : Word) : (s.afterRead a).params = s.params := by
  rcases afterRead_cases s a with h | h | h <;> simp [h]

@[simp] theorem afterRead_joypadWired (s : State) (a : Word) : (s.afterRead a).joypadWired = s.joypadWired := by
  rcases afterRead_cases s a with h | h | h <;> simp [h]

@[simp] theorem afterReadShort_regs (s : State) (a : Word) : (s.afterReadShort a).regs = s.regs := by
  simp [State.afterReadShort]

@[simp] theorem afterReadShort_stopped (s : State) (a : Word) : (s.afterReadShort a).stopped = s.stopped := by
  simp [State.afterReadShort]

@[simp] theorem afterReadShort_run (s : State) (a : Word) : (s.afterReadShort a).run = s.run := by
  simp [State.afterReadShort]

@[simp] theorem afterReadShort_ticks (s : State) (a : Word) : (s.afterReadShort a).ticks = s.ticks := by
  simp [State.afterReadShort]

@[simp] theorem afterReadShort_intr (s : State) (a : Word) : (s.afterReadShort a).intr = s.intr := by
  simp [State.afterReadShort]

@[simp] theorem afterReadShort_ppu (s : State) (a : Word) : (s.afterReadShort a).ppu = s.ppu := by
  simp [State.afterReadShort]

@[simp] theorem afterReadShort_mem (s : State) (a : Word) : (s.afterReadShort a).mem = s.mem := by
  simp [State.afterReadShort]

@[simp] theorem afterReadShort_io (s : State) (a : Word) : (s.afterReadShort a).io = s.io := by
  simp [State.afterReadShort]

@[simp] theorem afterReadShort_cartridge (s : State) (a : Word) : (s.afterReadShort a).cartridge = s.cartridge := by
  simp [State.afterReadShort]

@[simp] theorem afterReadShort_romLen (s : State) (a : Word) : (s.afterReadShort a).romLen = s.romLen := by
  simp [State.afterReadShort]

@[simp] theorem afterReadShort_params (s : State) (a : Word) : (s.afterReadShort a).params = s.params := by
  simp [State.afterReadShort]

@[simp] theorem afterReadShort_joypadWired (s : State) (a : Word) : (s.afterReadShort a).joypadWired = s.joypadWired := by
  simp [State.afterReadShort]

/-! ### What a write leaves alone -/

/-- An induction over the copied bytes: what each turn keeps, the copy keeps. -/
theorem dmaCopy_induct {P : State → Prop} {src : Word} {s : State} (h0 : P s)
    (hstep : ∀ t i, i < 160 → P t → P (dmaByte src t i)) : P (dmaCopy src s) := by
  have key : ∀ (l : List Nat), (∀ i ∈ l, i < 160) → ∀ t, P t → P (l.foldl (dmaByte src) t) := by
    intro l
    induction l with
    | nil => intro _ t ht; exact ht
    | cons i l ih =>
      intro hl t ht
      exact ih (fun j hj => hl j (List.mem_cons_of_mem _ hj)) _ (hstep t i (hl i List.mem_cons_self) ht)
  exact key _ (fun i hi => List.mem_range.1 hi) s h0

@[simp] theorem dmaCopy_regs (src : Word) (s : State) : (dmaCopy src s).regs = s.regs :=
  dmaCopy_induct (P := fun t => t.regs = s.regs) rfl fun t i _ ht => by simp [dmaByte, ht]

@[simp] theorem dmaCopy_stopped (src : Word) (s : State) : (dmaCopy src s).stopped = s.stopped :=
  dmaCopy_induct (P := fun t => t.stopped = s.stopped) rfl fun t i _ ht => by simp [dmaByte, ht]

@[simp] theorem dmaCopy_run (src : Word) (s : State) : (dmaCopy src s).run = s.run :=
  dmaCopy_induct (P := fun t => t.run = s.run) rfl fun t i _ ht => by simp [dmaByte, ht]

@[simp] theorem dmaCopy_ticks (src : Word) (s : State) : (dmaCopy src s).ticks = s.ticks :=
  dmaCopy_induct (P := fun t => t.ticks = s.ticks) rfl fun t i _ ht => by simp [dmaByte, ht]

@[simp] theorem dmaCopy_intr (src : Word) (s : State) : (dmaCopy src s).intr = s.intr :=
  dmaCopy_induct (P := fun t => t.intr = s.intr) rfl fun t i _ ht => by simp [dmaByte, ht]

@[simp] theorem dmaCopy_ppu (src : Word) (s : State) : (dmaCopy src s).ppu = s.ppu :=
  dmaCopy_induct (P := fun t => t.ppu = s.ppu) rfl fun t i _ ht => by simp [dmaByte, ht]

@[simp] theorem dmaCopy_io (src : Word) (s : State) : (dmaCopy src s).io = s.io :=
  dmaCopy_induct (P := fun t => t.io = s.io) rfl fun t i _ ht => by simp [dmaByte, ht]

@[simp] theorem dmaCopy_cartridge (src : Word) (s : State) : (dmaCopy src s).cartridge = s.cartridge :=
  dmaCopy_induct (P := fun t => t.cartridge = s.cartridge) rfl fun t i _ ht => by simp [dmaByte, ht]

@[simp] theorem dmaCopy_romLen (src : Word) (s : State) : (dmaCopy src s).romLen = s.romLen :=
  dmaCopy_induct (P := fun t => t.romLen = s.romLen) rfl fun t i _ ht => by simp [dmaByte, ht]

@[simp] theorem dmaCopy_params (src : Word) (s : State) : (dmaCopy src s).params = s.params :=
  dmaCopy_induct (P := fun t => t.params = s.params) rfl fun t i _ ht => by simp [dmaByte, ht]

@[simp] theorem dmaCopy_joypadWired (src : Word) (s : State) : (dmaCopy src s).joypadWired = s.joypadWired :=
  dmaCopy_induct (P := fun t => t.joypadWired = s.joypadWired) rfl fun t i _ ht => by simp [dmaByte, ht]

@[simp] theorem writeByte_regs (s : State) (a : Word) (v : Byte) : (s.writeByte a v).regs = s.regs := by
  unfold State.writeByte
  split <;> simp

@[simp] theorem writeByte_stopped (s : State) (a : Word) (v : Byte) : (s.writeByte a v).stopped = s.stopped := by
  unfold State.writeByte
  split <;> simp

@[simp] theorem writeByte_run (s : State) (a : Word) (v : Byte) : (s.writeByte a v).run = s.run := by
  unfold State.writeByte
  split <;> simp

@[simp] theorem writeByte_ticks (s : State) (a : Word) (v : Byte) : (s.writeByte a v).ticks = s.ticks := by
  unfold State.writeByte
  split <;> simp

@[simp] theorem writeByte_cartridge (s : State) (a : Word) (v : Byte) : (s.writeByte a v).cartridge = s.cartridge := by
  unfold State.writeByte
  split <;> simp

@[simp] theorem writeByte_romLen (s : State) (a : Word) (v : Byte) : (s.writeByte a v).romLen = s.romLen := by
  unfold State.writeByte
  split <;> simp

@[simp] theorem writeByte_params (s : State) (a : Word) (v : Byte) : (s.writeByte a v).params = s.params := by
  unfold State.writeByte
  split <;> simp

@[simp] theorem writeByte_joypadWired (s : State) (a : Word) (v : Byte) : (s.writeByte a v).joypadWired = s.joypadWired := by
  unfold State.writeByte
  split <;> simp

@[simp] theorem writeByte_master (s : State) (a : Word) (v : Byte) : (s.writeByte a v).intr.master = s.intr.master := by
  unfold State.writeByte
  split <;> simp

@[simp] theorem writeByte_scanline (s : State) (a : Word) (v : Byte) : (s.writeByte a v).ppu.scanline = s.ppu.scanline := by
  unfold State.writeByte
  split <;> simp

@[simp] theorem writeByte_tick (s : State) (a : Word) (v : Byte) : (s.writeByte a v).ppu.tick = s.ppu.tick := by
  unfold State.writeByte
  split <;> simp

@[simp] theorem writeByte_mode (s : State) (a : Word) (v : Byte) : (s.writeByte a v).ppu.mode = s.ppu.mode := by
  unfold State.writeByte
  split <;> simp

@[simp] theorem writeByte_lastTicks (s : State) (a : Word) (v : Byte) : (s.writeByte a v).ppu.lastTicks = s.ppu.lastTicks := by
  unfold State.writeByte
  split <;> simp

@[simp] theorem writeShort_regs (s : State) (a v : Word) : (s.writeShort a v).regs = s.regs := by
  simp [State.writeShort]

@[simp] theorem writeShort_stopped (s : State) (a v : Word) : (s.writeShort a v).stopped = s.stopped := by
  simp [State.writeShort]

@[simp] theorem writeShort_run (s : State) (a v : Word) : (s.writeShort a v).run = s.run := by
  simp [State.writeShort]

@[simp] theorem writeShort_ticks (s : State) (a v : Word) : (s.writeShort a v).ticks = s.ticks := by
  simp [State.writeShort]

@[simp] theorem writeShort_cartridge (s : State) (a v : Word) : (s.writeShort a v).cartridge = s.cartridge := by
  simp [State.writeShort]

@[simp] theorem writeShort_romLen (s : State) (a v : Word) : (s.writeShort a v).romLen = s.romLen := by
  simp [State.writeShort]

@[simp] theorem writeShort_params (s : State) (a v : Word) : (s.writeShort a v).params = s.params := by
  simp [State.writeShort]

@[simp] theorem writeShort_joypadWired (s : State) (a v : Word) : (s.writeShort a v).joypadWired = s.joypadWired := by
  simp [State.writeShort]

@[simp] theorem pushWord_stopped (s : State) (v : Word) : (s.pushWord v).stopped = s.stopped := by
  simp [State.pushWord]

@[simp] theorem afterPop_stopped (s : State) : s.afterPop.stopped = s.stopped := by
  simp [State.afterPop]

@[simp] theorem pushWord_run (s : State) (v : Word) : (s.pushWord v).run = s.run := by
  simp [State.pushWord]

@[simp] theorem afterPop_run (s : State) : s.afterPop.run = s.run := by
  simp [State.afterPop]

@[simp] theorem pushWord_ticks (s : State) (v : Word) : (s.pushWord v).ticks = s.ticks := by
  simp [State.pushWord]

@[simp] theorem afterPop_ticks (s : State) : s.afterPop.ticks = s.ticks := by
  simp [State.afterPop]

@[simp] theorem pushWord_cartridge (s : State) (v : Word) : (s.pushWord v).cartridge = s.cartridge := by
  simp [State.pushWord]

@[simp] theorem afterPop_cartridge (s : State) : s.afterPop.cartridge = s.cartridge := by
  simp [State.afterPop]

@[simp] theorem pushWord_romLen (s : State) (v : Word) : (s.pushWord v).romLen = s.romLen := by
  simp [State.pushWord]

@[simp] theorem afterPop_romLen (s : State) : s.afterPop.romLen = s.romLen := by
  simp [State.afterPop]

@[simp] theorem pushWord_params (s : State) (v : Word) : (s.pushWord v).params = s.params := by
  simp [State.pushWord]

@[simp] theorem afterPop_params (s : State) : s.afterPop.params = s.params := by
  simp [State.afterPop]

@[simp] theorem pushWord_joypadWired (s : State) (v : Word) : (s.pushWord v).joypadWired = s.joypadWired := by
  simp [State.pushWord]

@[simp] theorem afterPop_joypadWired (s : State) : s.afterPop.joypadWired = s.joypadWired := by
  simp [State.afterPop]

@[simp] theorem afterPop_intr (s : State) : s.afterPop.intr = s.intr := by
  simp [State.afterPop]

@[simp] theorem afterPop_ppu (s : State) : s.afterPop.ppu = s.ppu := by
  simp [State.afterPop]

@[simp] theorem afterPop_mem (s : State) : s.afterPop.mem = s.mem := by
  simp [State.afterPop]

@[simp] theorem afterPop_io (s : State) : s.afterPop.io = s.io := by
  simp [State.afterPop]

@[simp] theorem writeShort_master (s : State) (a v : Word) : (s.writeShort a v).intr.master = s.intr.master := by
  simp [State.writeShort]

@[simp] theorem pushWord_master (s : State) (v : Word) : (s.pushWord v).intr.master = s.intr.master := by
  simp [State.pushWord]

@[simp] theorem writeShort_scanline (s : State) (a v : Word) : (s.writeShort a v).ppu.scanline = s.ppu.scanline := by
  simp [State.writeShort]

@[simp] theorem pushWord_scanline (s : State) (v : Word) : (s.pushWord v).ppu.scanline = s.ppu.scanline := by
  simp [State.pushWord]

@[simp] theorem writeShort_tick (s : State) (a v : Word) : (s.writeShort a v).ppu.tick = s.ppu.tick := by
  simp [State.writeShort]

@[simp] theorem pushWord_tick (s : State) (v : Word) : (s.pushWord v).ppu.tick = s.ppu.tick := by
  simp [State.pushWord]

@[simp] theorem writeShort_mode (s : State) (a v : Word) : (s.writeShort a v).ppu.mode = s.ppu.mode := by
  simp [State.writeShort]

@[simp] theorem pushWord_mode (s : State) (v : Word) : (s.pushWord v).ppu.mode = s.ppu.mode := by
  simp [State.pushWord]

@[simp] theorem writeShort_lastTicks (s : State) (a v : Word) : (s.writeShort a v).ppu.lastTicks = s.ppu.lastTicks := by
  simp [State.writeShort]

@[simp] theorem pushWord_lastTicks (s : State) (v : Word) : (s.pushWord v).ppu.lastTicks = s.ppu.lastTicks := by
  simp [State.pushWord]

@[simp] theorem pushWord_regs (s : State) (v : Word) : (s.pushWord v).regs = { s.regs with sp := s.regs.sp - 2 } := by
  simp [State.pushWord]

@[simp] theorem afterPop_regs (s : State) : s.afterPop.regs = { s.regs with sp := s.regs.sp + 2 } := by
  simp [State.afterPop]

/-! ### The memory stays good and the ROM stays as it is -/

/-- What a bus access does to the stores: they stay good, and no ROM byte changes, nor hram's last byte, at home 0xFFFF. -/
structure StoresKept (s t : State) : Prop where
  romLen : t.romLen = s.romLen
  rom : ∀ k < 0x8000, t.mem.read k = s.mem.read k
  hramLast : t.mem.read 0xFFFF = s.mem.read 0xFFFF
  good : s.MemoryGood → t.MemoryGood

theorem StoresKept.refl (s : State) : StoresKept s s :=
  ⟨rfl, fun _ _ => rfl, rfl, id⟩

theorem StoresKept.trans {s t u : State} (h : StoresKept s t) (k : StoresKept t u) : StoresKept s u :=
  ⟨k.romLen.trans h.romLen, fun a ha => (k.rom a ha).trans (h.rom a ha), k.hramLast.trans h.hramLast,
    fun hs => k.good (h.good hs)⟩

/-- An update that touches neither the stores nor the image length. -/
theorem StoresKept.of_eq {s t : State} (hm : t.mem = s.mem) (hl : t.romLen = s.romLen) : StoresKept s t :=
  ⟨hl, fun _ _ => by rw [hm], by rw [hm], fun h => by simpa only [State.MemoryGood, hm, hl] using h⟩

/-- Storing a byte at the home address of a RAM byte. -/
theorem StoresKept.setMem {s : State} {k : Nat} (v : Byte)
    (hk : (0x8000 ≤ k ∧ k < 0xE000) ∨ (0xFE00 ≤ k ∧ k < 0xFF00) ∨ (0xFF80 ≤ k ∧ k < 0xFFFF)) :
    StoresKept s (s.setMem k v) := by
  refine ⟨rfl, fun j hj => Memory.read_write_ne _ (by omega) v, Memory.read_write_ne _ (by omega) v,
    fun h => ⟨Memory.write_wf h.1 k v, fun c hc => ?_⟩⟩
  rcases Memory.mem_write hc with hc | ⟨rfl, -⟩
  · exact h.2 c hc
  · simp only [homeAddress, Bool.or_eq_true, decide_eq_true_eq]
    omega

theorem storesKept_afterRead (s : State) (a : Word) : StoresKept s (s.afterRead a) :=
  .of_eq (by simp) (by simp)

theorem storesKept_dmaCopy (src : Word) (s : State) : StoresKept s (dmaCopy src s) :=
  dmaCopy_induct (P := StoresKept s) (.refl s) fun t i hi ht =>
    (ht.trans (storesKept_afterRead t _)).trans (.setMem _ (by omega))

theorem storesKept_writeByte (s : State) (a : Word) (v : Byte) : StoresKept s (s.writeByte a v) := by
  unfold State.writeByte
  split
  next => exact .refl s
  next k hk => exact .setMem v (busTarget_ram_home hk)
  case h_10 => exact (StoresKept.of_eq (s := s) (t := s.setIo 0x46 v) rfl rfl).trans (storesKept_dmaCopy _ _)
  all_goals exact .of_eq rfl rfl

theorem storesKept_writeShort (s : State) (a v : Word) : StoresKept s (s.writeShort a v) :=
  (storesKept_writeByte s a _).trans (storesKept_writeByte _ _ _)

theorem storesKept_pushWord (s : State) (v : Word) : StoresKept s (s.pushWord v) :=
  (StoresKept.of_eq (s := s) (t := s.setSp (s.regs.sp - 2)) rfl rfl).trans (storesKept_writeShort _ _ _)

theorem storesKept_afterPop (s : State) : StoresKept s s.afterPop :=
  .of_eq (by simp) (by simp)

end Sys2Proof.Machine
end

