-- ==== Sys2Proof/Laws/Words.lean ====
section
/-! SUPPORT. Bytes of words, and the flags packed in `f`. -/

namespace Sys2Proof

@[simp] theorem loByte_wordOfBytes (lo hi : Byte) : loByte (wordOfBytes lo hi) = lo :=
  BitVec.extractLsb'_append_eq_right

@[simp] theorem hiByte_wordOfBytes (lo hi : Byte) : hiByte (wordOfBytes lo hi) = hi :=
  BitVec.extractLsb'_append_eq_left

@[simp] theorem wordOfBytes_lo_hi (v : Word) : wordOfBytes (loByte v) (hiByte v) = v := by
  apply BitVec.eq_of_toNat_eq
  have := v.isLt
  rw [wordOfBytes, loByte, hiByte, BitVec.toNat_append, BitVec.extractLsb'_toNat, BitVec.extractLsb'_toNat,
    ← Nat.shiftLeft_add_eq_or_of_lt (Nat.mod_lt _ (by decide)), Nat.shiftLeft_eq, Nat.shiftRight_eq_div_pow]
  simp
  omega

theorem toNat_wordOfBytes (lo hi : Byte) : (wordOfBytes lo hi).toNat = 256 * hi.toNat + lo.toNat := by
  have := lo.isLt
  rw [wordOfBytes, BitVec.toNat_append, Nat.shiftLeft_add_eq_or_of_lt lo.isLt hi.toNat |>.symm, Nat.shiftLeft_eq]
  omega

namespace Machine

@[simp] theorem packFlags_and_high (fl : FlagBits) : packFlags fl &&& 0xF0 = packFlags fl := by
  obtain ⟨z, n, h, c⟩ := fl
  cases z <;> cases n <;> cases h <;> cases c <;> rfl

@[simp] theorem packFlags_and_low (fl : FlagBits) : packFlags fl &&& 0x0F = 0x00 := by
  obtain ⟨z, n, h, c⟩ := fl
  cases z <;> cases n <;> cases h <;> cases c <;> rfl

@[simp] theorem flagsOfByte_packFlags (fl : FlagBits) : flagsOfByte (packFlags fl) = fl := by
  obtain ⟨z, n, h, c⟩ := fl
  cases z <;> cases n <;> cases h <;> cases c <;> rfl

theorem high_and_low (v : Byte) : v &&& 0xF0 &&& 0x0F = 0x00 := by
  rw [BitVec.and_assoc]
  exact BitVec.and_zero

/-- The flags just written are the flags read. -/
@[simp] theorem setFlags_flags (s : State) (fl : FlagBits) : (s.setFlags fl).flags = fl := by
  show flagsOfByte (packFlags fl &&& 0xF0) = fl
  rw [packFlags_and_high, flagsOfByte_packFlags]

end Machine

end Sys2Proof
end

