-- ==== Sys2Proof/Laws/Exec.lean ====
section
/-! SUPPORT. Every instruction is one of a few shared operations: `exec_eq_run` turns a claim about the 512 arms into one
about the constructors of `Action`, and `Action.run_kept` says what none of them can touch. -/

namespace Sys2Proof.Machine

/-- The shared operation behind an instruction, with its operands. -/
inductive Action where
  | skip
  | stop
  | setMaster (b : Bool)
  | trap (op : Byte)
  | loadOperand (dst src : Operand8)
  | loadImm (dst : Operand8) (n : Byte)
  | loadA (addr : State → Word)
  | storeA (addr : State → Word)
  | loadAStep (next : Word → Word)
  | storeAStep (next : Word → Word)
  | loadPair (p : Pair) (nn : Word)
  | storeSp (nn : Word)
  | loadSpHl
  | push (p : StackPair)
  | pop (p : StackPair)
  | aluOperand (op : AluOp) (o : Operand8)
  | aluImm (op : AluOp) (n : Byte)
  | incOperand (o : Operand8)
  | decOperand (o : Operand8)
  | decimalAdjust
  | complementA
  | setCarry
  | complementCarry
  | incPair (p : Pair)
  | decPair (p : Pair)
  | addHl (p : Pair)
  | addSpOffset (e : Byte)
  | loadHlSpOffset (e : Byte)
  | rotateA (op : ShiftOp)
  | shiftOperand (op : ShiftOp) (o : Operand8)
  | testBit (b : Fin 8) (o : Operand8)
  | resetBit (b : Fin 8) (o : Operand8)
  | setBit (b : Fin 8) (o : Operand8)
  | cbOperation (n : Byte)
  | jumpTo (nn : Word)
  | jumpHl
  | jumpIf (cc : Cond) (nn : Word)
  | jumpRelative (e : Byte)
  | jumpRelativeIf (cc : Cond) (e : Byte)
  | call (nn : Word)
  | callIf (cc : Cond) (nn : Word)
  | returnFromCall
  | returnIf (cc : Cond)
  | returnFromInterrupt

/-- What the operation does. -/
def Action.run : Action → State → State
  | .skip, s => s
  | .stop, s => s.setStopped true
  | .setMaster b, s => s.setMaster b
  | .trap op, s => takeIllegalOpcode op 0 s
  | .loadOperand dst src, s => Machine.loadOperand dst src s
  | .loadImm dst n, s => s.writeOperand dst n
  | .loadA addr, s => Machine.loadA (addr s) s
  | .storeA addr, s => Machine.storeA (addr s) s
  | .loadAStep k, s => (Machine.loadA (s.pair .hl) s).setPair .hl (k (s.pair .hl))
  | .storeAStep k, s => (Machine.storeA (s.pair .hl) s).setPair .hl (k (s.pair .hl))
  | .loadPair p nn, s => s.setPair p nn
  | .storeSp nn, s => s.writeShort nn s.regs.sp
  | .loadSpHl, s => s.setSp (s.pair .hl)
  | .push p, s => s.pushWord (s.stackPair p)
  | .pop p, s => popTo p s
  | .aluOperand op o, s => Machine.aluOperand op o s
  | .aluImm op n, s => alu op n s
  | .incOperand o, s => Machine.incOperand o s
  | .decOperand o, s => Machine.decOperand o s
  | .decimalAdjust, s => Machine.decimalAdjust s
  | .complementA, s => Machine.complementA s
  | .setCarry, s => Machine.setCarry s
  | .complementCarry, s => Machine.complementCarry s
  | .incPair p, s => Machine.incPair p s
  | .decPair p, s => Machine.decPair p s
  | .addHl p, s => addHlPair p s
  | .addSpOffset e, s => Machine.addSpOffset e s
  | .loadHlSpOffset e, s => Machine.loadHlSpOffset e s
  | .rotateA op, s => Machine.rotateA op s
  | .shiftOperand op o, s => Machine.shiftOperand op o s
  | .testBit b o, s => Machine.testBit b o s
  | .resetBit b o, s => Machine.resetBit b o s
  | .setBit b o, s => Machine.setBit b o s
  | .cbOperation n, s => Machine.cbOperation n s
  | .jumpTo nn, s => s.setPc nn
  | .jumpHl, s => s.setPc (s.pair .hl)
  | .jumpIf cc nn, s => Machine.jumpIf cc nn s
  | .jumpRelative e, s => Machine.jumpRelative e s
  | .jumpRelativeIf cc e, s => Machine.jumpRelativeIf cc e s
  | .call nn, s => Machine.call nn s
  | .callIf cc nn, s => Machine.callIf cc nn s
  | .returnFromCall, s => Machine.returnFromCall s
  | .returnIf cc, s => Machine.returnIf cc s
  | .returnFromInterrupt, s => Machine.returnFromInterrupt s

/-- The operation of each instruction. -/
def actionOf : Instr → Action
  | .ldBcNn nn => .loadPair .bc nn
  | .ldBN n => .loadImm .b n
  | .ldIndNnSp nn => .storeSp nn
  | .ldCN n => .loadImm .c n
  | .stop _ => .stop
  | .ldDeNn nn => .loadPair .de nn
  | .ldDN n => .loadImm .d n
  | .jrE e => .jumpRelative e
  | .ldEN n => .loadImm .e n
  | .jrNzE e => .jumpRelativeIf .nz e
  | .ldHlNn nn => .loadPair .hl nn
  | .ldHN n => .loadImm .h n
  | .jrZE e => .jumpRelativeIf .z e
  | .ldLN n => .loadImm .l n
  | .jrNcE e => .jumpRelativeIf .nc e
  | .ldSpNn nn => .loadPair .sp nn
  | .ldIndHlN n => .loadImm .indHl n
  | .jrCE e => .jumpRelativeIf .c e
  | .ldAN n => .loadImm .a n
  | .jpNzNn nn => .jumpIf .nz nn
  | .jpNn nn => .jumpTo nn
  | .callNzNn nn => .callIf .nz nn
  | .addAN n => .aluImm .add n
  | .jpZNn nn => .jumpIf .z nn
  | .prefixCb n => .cbOperation n
  | .callZNn nn => .callIf .z nn
  | .callNn nn => .call nn
  | .adcAN n => .aluImm .adc n
  | .jpNcNn nn => .jumpIf .nc nn
  | .callNcNn nn => .callIf .nc nn
  | .subN n => .aluImm .sub n
  | .jpCNn nn => .jumpIf .c nn
  | .callCNn nn => .callIf .c nn
  | .sbcAN n => .aluImm .sbc n
  | .ldhIndNA n => .storeA fun _ => highPage n
  | .andN n => .aluImm .and n
  | .addSpE e => .addSpOffset e
  | .ldIndNnA nn => .storeA fun _ => nn
  | .xorN n => .aluImm .xor n
  | .ldhAIndN n => .loadA fun _ => highPage n
  | .orN n => .aluImm .or n
  | .ldHlSpE e => .loadHlSpOffset e
  | .ldAIndNn nn => .loadA fun _ => nn
  | .cpN n => .aluImm .cp n
  | .nop => .skip
  | .ldIndBcA => .storeA fun s => s.pair .bc
  | .incBc => .incPair .bc
  | .incB => .incOperand .b
  | .decB => .decOperand .b
  | .rlca => .rotateA .rlc
  | .addHlBc => .addHl .bc
  | .ldAIndBc => .loadA fun s => s.pair .bc
  | .decBc => .decPair .bc
  | .incC => .incOperand .c
  | .decC => .decOperand .c
  | .rrca => .rotateA .rrc
  | .ldIndDeA => .storeA fun s => s.pair .de
  | .incDe => .incPair .de
  | .incD => .incOperand .d
  | .decD => .decOperand .d
  | .rla => .rotateA .rl
  | .addHlDe => .addHl .de
  | .ldAIndDe => .loadA fun s => s.pair .de
  | .decDe => .decPair .de
  | .incE => .incOperand .e
  | .decE => .decOperand .e
  | .rra => .rotateA .rr
  | .ldIndHlIncA => .storeAStep (· + 1)
  | .incHl => .incPair .hl
  | .incH => .incOperand .h
  | .decH => .decOperand .h
  | .daa => .decimalAdjust
  | .addHlHl => .addHl .hl
  | .ldAIndHlInc => .loadAStep (· + 1)
  | .decHl => .decPair .hl
  | .incL => .incOperand .l
  | .decL => .decOperand .l
  | .cpl => .complementA
  | .ldIndHlDecA => .storeAStep (· - 1)
  | .incSp => .incPair .sp
  | .incIndHl => .incOperand .indHl
  | .decIndHl => .decOperand .indHl
  | .scf => .setCarry
  | .addHlSp => .addHl .sp
  | .ldAIndHlDec => .loadAStep (· - 1)
  | .decSp => .decPair .sp
  | .incA => .incOperand .a
  | .decA => .decOperand .a
  | .ccf => .complementCarry
  | .ldBB => .loadOperand .b .b
  | .ldBC => .loadOperand .b .c
  | .ldBD => .loadOperand .b .d
  | .ldBE => .loadOperand .b .e
  | .ldBH => .loadOperand .b .h
  | .ldBL => .loadOperand .b .l
  | .ldBIndHl => .loadOperand .b .indHl
  | .ldBA => .loadOperand .b .a
  | .ldCB => .loadOperand .c .b
  | .ldCC => .loadOperand .c .c
  | .ldCD => .loadOperand .c .d
  | .ldCE => .loadOperand .c .e
  | .ldCH => .loadOperand .c .h
  | .ldCL => .loadOperand .c .l
  | .ldCIndHl => .loadOperand .c .indHl
  | .ldCA => .loadOperand .c .a
  | .ldDB => .loadOperand .d .b
  | .ldDC => .loadOperand .d .c
  | .ldDD => .loadOperand .d .d
  | .ldDE => .loadOperand .d .e
  | .ldDH => .loadOperand .d .h
  | .ldDL => .loadOperand .d .l
  | .ldDIndHl => .loadOperand .d .indHl
  | .ldDA => .loadOperand .d .a
  | .ldEB => .loadOperand .e .b
  | .ldEC => .loadOperand .e .c
  | .ldED => .loadOperand .e .d
  | .ldEE => .loadOperand .e .e
  | .ldEH => .loadOperand .e .h
  | .ldEL => .loadOperand .e .l
  | .ldEIndHl => .loadOperand .e .indHl
  | .ldEA => .loadOperand .e .a
  | .ldHB => .loadOperand .h .b
  | .ldHC => .loadOperand .h .c
  | .ldHD => .loadOperand .h .d
  | .ldHE => .loadOperand .h .e
  | .ldHH => .loadOperand .h .h
  | .ldHL => .loadOperand .h .l
  | .ldHIndHl => .loadOperand .h .indHl
  | .ldHA => .loadOperand .h .a
  | .ldLB => .loadOperand .l .b
  | .ldLC => .loadOperand .l .c
  | .ldLD => .loadOperand .l .d
  | .ldLE => .loadOperand .l .e
  | .ldLH => .loadOperand .l .h
  | .ldLL => .loadOperand .l .l
  | .ldLIndHl => .loadOperand .l .indHl
  | .ldLA => .loadOperand .l .a
  | .ldIndHlB => .loadOperand .indHl .b
  | .ldIndHlC => .loadOperand .indHl .c
  | .ldIndHlD => .loadOperand .indHl .d
  | .ldIndHlE => .loadOperand .indHl .e
  | .ldIndHlH => .loadOperand .indHl .h
  | .ldIndHlL => .loadOperand .indHl .l
  | .halt => .skip
  | .ldIndHlA => .loadOperand .indHl .a
  | .ldAB => .loadOperand .a .b
  | .ldAC => .loadOperand .a .c
  | .ldAD => .loadOperand .a .d
  | .ldAE => .loadOperand .a .e
  | .ldAH => .loadOperand .a .h
  | .ldAL => .loadOperand .a .l
  | .ldAIndHl => .loadOperand .a .indHl
  | .ldAA => .loadOperand .a .a
  | .addAB => .aluOperand .add .b
  | .addAC => .aluOperand .add .c
  | .addAD => .aluOperand .add .d
  | .addAE => .aluOperand .add .e
  | .addAH => .aluOperand .add .h
  | .addAL => .aluOperand .add .l
  | .addAIndHl => .aluOperand .add .indHl
  | .addAA => .aluOperand .add .a
  | .adcAB => .aluOperand .adc .b
  | .adcAC => .aluOperand .adc .c
  | .adcAD => .aluOperand .adc .d
  | .adcAE => .aluOperand .adc .e
  | .adcAH => .aluOperand .adc .h
  | .adcAL => .aluOperand .adc .l
  | .adcAIndHl => .aluOperand .adc .indHl
  | .adcAA => .aluOperand .adc .a
  | .subB => .aluOperand .sub .b
  | .subC => .aluOperand .sub .c
  | .subD => .aluOperand .sub .d
  | .subE => .aluOperand .sub .e
  | .subH => .aluOperand .sub .h
  | .subL => .aluOperand .sub .l
  | .subIndHl => .aluOperand .sub .indHl
  | .subA => .aluOperand .sub .a
  | .sbcAB => .aluOperand .sbc .b
  | .sbcAC => .aluOperand .sbc .c
  | .sbcAD => .aluOperand .sbc .d
  | .sbcAE => .aluOperand .sbc .e
  | .sbcAH => .aluOperand .sbc .h
  | .sbcAL => .aluOperand .sbc .l
  | .sbcAIndHl => .aluOperand .sbc .indHl
  | .sbcAA => .aluOperand .sbc .a
  | .andB => .aluOperand .and .b
  | .andC => .aluOperand .and .c
  | .andD => .aluOperand .and .d
  | .andE => .aluOperand .and .e
  | .andH => .aluOperand .and .h
  | .andL => .aluOperand .and .l
  | .andIndHl => .aluOperand .and .indHl
  | .andA => .aluOperand .and .a
  | .xorB => .aluOperand .xor .b
  | .xorC => .aluOperand .xor .c
  | .xorD => .aluOperand .xor .d
  | .xorE => .aluOperand .xor .e
  | .xorH => .aluOperand .xor .h
  | .xorL => .aluOperand .xor .l
  | .xorIndHl => .aluOperand .xor .indHl
  | .xorA => .aluOperand .xor .a
  | .orB => .aluOperand .or .b
  | .orC => .aluOperand .or .c
  | .orD => .aluOperand .or .d
  | .orE => .aluOperand .or .e
  | .orH => .aluOperand .or .h
  | .orL => .aluOperand .or .l
  | .orIndHl => .aluOperand .or .indHl
  | .orA => .aluOperand .or .a
  | .cpB => .aluOperand .cp .b
  | .cpC => .aluOperand .cp .c
  | .cpD => .aluOperand .cp .d
  | .cpE => .aluOperand .cp .e
  | .cpH => .aluOperand .cp .h
  | .cpL => .aluOperand .cp .l
  | .cpIndHl => .aluOperand .cp .indHl
  | .cpA => .aluOperand .cp .a
  | .retNz => .returnIf .nz
  | .popBc => .pop .bc
  | .pushBc => .push .bc
  | .rst00 => .call 0x0000
  | .retZ => .returnIf .z
  | .ret => .returnFromCall
  | .rst08 => .call 0x0008
  | .retNc => .returnIf .nc
  | .popDe => .pop .de
  | .illegalD3 => .trap 0xD3
  | .pushDe => .push .de
  | .rst10 => .call 0x0010
  | .retC => .returnIf .c
  | .reti => .returnFromInterrupt
  | .illegalDB => .trap 0xDB
  | .illegalDD => .trap 0xDD
  | .rst18 => .call 0x0018
  | .popHl => .pop .hl
  | .ldIndCA => .storeA fun s => highPage s.regs.c
  | .illegalE3 => .trap 0xE3
  | .illegalE4 => .trap 0xE4
  | .pushHl => .push .hl
  | .rst20 => .call 0x0020
  | .jpHl => .jumpHl
  | .illegalEB => .trap 0xEB
  | .illegalEC => .trap 0xEC
  | .illegalED => .trap 0xED
  | .rst28 => .call 0x0028
  | .popAf => .pop .af
  | .ldAIndC => .loadA fun s => highPage s.regs.c
  | .di => .setMaster false
  | .illegalF4 => .trap 0xF4
  | .pushAf => .push .af
  | .rst30 => .call 0x0030
  | .ldSpHl => .loadSpHl
  | .ei => .setMaster true
  | .illegalFC => .trap 0xFC
  | .illegalFD => .trap 0xFD
  | .rst38 => .call 0x0038
  | .rlcB => .shiftOperand .rlc .b
  | .rlcC => .shiftOperand .rlc .c
  | .rlcD => .shiftOperand .rlc .d
  | .rlcE => .shiftOperand .rlc .e
  | .rlcH => .shiftOperand .rlc .h
  | .rlcL => .shiftOperand .rlc .l
  | .rlcIndHl => .shiftOperand .rlc .indHl
  | .rlcA => .shiftOperand .rlc .a
  | .rrcB => .shiftOperand .rrc .b
  | .rrcC => .shiftOperand .rrc .c
  | .rrcD => .shiftOperand .rrc .d
  | .rrcE => .shiftOperand .rrc .e
  | .rrcH => .shiftOperand .rrc .h
  | .rrcL => .shiftOperand .rrc .l
  | .rrcIndHl => .shiftOperand .rrc .indHl
  | .rrcA => .shiftOperand .rrc .a
  | .rlB => .shiftOperand .rl .b
  | .rlC => .shiftOperand .rl .c
  | .rlD => .shiftOperand .rl .d
  | .rlE => .shiftOperand .rl .e
  | .rlH => .shiftOperand .rl .h
  | .rlL => .shiftOperand .rl .l
  | .rlIndHl => .shiftOperand .rl .indHl
  | .rlA => .shiftOperand .rl .a
  | .rrB => .shiftOperand .rr .b
  | .rrC => .shiftOperand .rr .c
  | .rrD => .shiftOperand .rr .d
  | .rrE => .shiftOperand .rr .e
  | .rrH => .shiftOperand .rr .h
  | .rrL => .shiftOperand .rr .l
  | .rrIndHl => .shiftOperand .rr .indHl
  | .rrA => .shiftOperand .rr .a
  | .slaB => .shiftOperand .sla .b
  | .slaC => .shiftOperand .sla .c
  | .slaD => .shiftOperand .sla .d
  | .slaE => .shiftOperand .sla .e
  | .slaH => .shiftOperand .sla .h
  | .slaL => .shiftOperand .sla .l
  | .slaIndHl => .shiftOperand .sla .indHl
  | .slaA => .shiftOperand .sla .a
  | .sraB => .shiftOperand .sra .b
  | .sraC => .shiftOperand .sra .c
  | .sraD => .shiftOperand .sra .d
  | .sraE => .shiftOperand .sra .e
  | .sraH => .shiftOperand .sra .h
  | .sraL => .shiftOperand .sra .l
  | .sraIndHl => .shiftOperand .sra .indHl
  | .sraA => .shiftOperand .sra .a
  | .swapB => .shiftOperand .swap .b
  | .swapC => .shiftOperand .swap .c
  | .swapD => .shiftOperand .swap .d
  | .swapE => .shiftOperand .swap .e
  | .swapH => .shiftOperand .swap .h
  | .swapL => .shiftOperand .swap .l
  | .swapIndHl => .shiftOperand .swap .indHl
  | .swapA => .shiftOperand .swap .a
  | .srlB => .shiftOperand .srl .b
  | .srlC => .shiftOperand .srl .c
  | .srlD => .shiftOperand .srl .d
  | .srlE => .shiftOperand .srl .e
  | .srlH => .shiftOperand .srl .h
  | .srlL => .shiftOperand .srl .l
  | .srlIndHl => .shiftOperand .srl .indHl
  | .srlA => .shiftOperand .srl .a
  | .bit0B => .testBit 0 .b
  | .bit0C => .testBit 0 .c
  | .bit0D => .testBit 0 .d
  | .bit0E => .testBit 0 .e
  | .bit0H => .testBit 0 .h
  | .bit0L => .testBit 0 .l
  | .bit0IndHl => .testBit 0 .indHl
  | .bit0A => .testBit 0 .a
  | .bit1B => .testBit 1 .b
  | .bit1C => .testBit 1 .c
  | .bit1D => .testBit 1 .d
  | .bit1E => .testBit 1 .e
  | .bit1H => .testBit 1 .h
  | .bit1L => .testBit 1 .l
  | .bit1IndHl => .testBit 1 .indHl
  | .bit1A => .testBit 1 .a
  | .bit2B => .testBit 2 .b
  | .bit2C => .testBit 2 .c
  | .bit2D => .testBit 2 .d
  | .bit2E => .testBit 2 .e
  | .bit2H => .testBit 2 .h
  | .bit2L => .testBit 2 .l
  | .bit2IndHl => .testBit 2 .indHl
  | .bit2A => .testBit 2 .a
  | .bit3B => .testBit 3 .b
  | .bit3C => .testBit 3 .c
  | .bit3D => .testBit 3 .d
  | .bit3E => .testBit 3 .e
  | .bit3H => .testBit 3 .h
  | .bit3L => .testBit 3 .l
  | .bit3IndHl => .testBit 3 .indHl
  | .bit3A => .testBit 3 .a
  | .bit4B => .testBit 4 .b
  | .bit4C => .testBit 4 .c
  | .bit4D => .testBit 4 .d
  | .bit4E => .testBit 4 .e
  | .bit4H => .testBit 4 .h
  | .bit4L => .testBit 4 .l
  | .bit4IndHl => .testBit 4 .indHl
  | .bit4A => .testBit 4 .a
  | .bit5B => .testBit 5 .b
  | .bit5C => .testBit 5 .c
  | .bit5D => .testBit 5 .d
  | .bit5E => .testBit 5 .e
  | .bit5H => .testBit 5 .h
  | .bit5L => .testBit 5 .l
  | .bit5IndHl => .testBit 5 .indHl
  | .bit5A => .testBit 5 .a
  | .bit6B => .testBit 6 .b
  | .bit6C => .testBit 6 .c
  | .bit6D => .testBit 6 .d
  | .bit6E => .testBit 6 .e
  | .bit6H => .testBit 6 .h
  | .bit6L => .testBit 6 .l
  | .bit6IndHl => .testBit 6 .indHl
  | .bit6A => .testBit 6 .a
  | .bit7B => .testBit 7 .b
  | .bit7C => .testBit 7 .c
  | .bit7D => .testBit 7 .d
  | .bit7E => .testBit 7 .e
  | .bit7H => .testBit 7 .h
  | .bit7L => .testBit 7 .l
  | .bit7IndHl => .testBit 7 .indHl
  | .bit7A => .testBit 7 .a
  | .res0B => .resetBit 0 .b
  | .res0C => .resetBit 0 .c
  | .res0D => .resetBit 0 .d
  | .res0E => .resetBit 0 .e
  | .res0H => .resetBit 0 .h
  | .res0L => .resetBit 0 .l
  | .res0IndHl => .resetBit 0 .indHl
  | .res0A => .resetBit 0 .a
  | .res1B => .resetBit 1 .b
  | .res1C => .resetBit 1 .c
  | .res1D => .resetBit 1 .d
  | .res1E => .resetBit 1 .e
  | .res1H => .resetBit 1 .h
  | .res1L => .resetBit 1 .l
  | .res1IndHl => .resetBit 1 .indHl
  | .res1A => .resetBit 1 .a
  | .res2B => .resetBit 2 .b
  | .res2C => .resetBit 2 .c
  | .res2D => .resetBit 2 .d
  | .res2E => .resetBit 2 .e
  | .res2H => .resetBit 2 .h
  | .res2L => .resetBit 2 .l
  | .res2IndHl => .resetBit 2 .indHl
  | .res2A => .resetBit 2 .a
  | .res3B => .resetBit 3 .b
  | .res3C => .resetBit 3 .c
  | .res3D => .resetBit 3 .d
  | .res3E => .resetBit 3 .e
  | .res3H => .resetBit 3 .h
  | .res3L => .resetBit 3 .l
  | .res3IndHl => .resetBit 3 .indHl
  | .res3A => .resetBit 3 .a
  | .res4B => .resetBit 4 .b
  | .res4C => .resetBit 4 .c
  | .res4D => .resetBit 4 .d
  | .res4E => .resetBit 4 .e
  | .res4H => .resetBit 4 .h
  | .res4L => .resetBit 4 .l
  | .res4IndHl => .resetBit 4 .indHl
  | .res4A => .resetBit 4 .a
  | .res5B => .resetBit 5 .b
  | .res5C => .resetBit 5 .c
  | .res5D => .resetBit 5 .d
  | .res5E => .resetBit 5 .e
  | .res5H => .resetBit 5 .h
  | .res5L => .resetBit 5 .l
  | .res5IndHl => .resetBit 5 .indHl
  | .res5A => .resetBit 5 .a
  | .res6B => .resetBit 6 .b
  | .res6C => .resetBit 6 .c
  | .res6D => .resetBit 6 .d
  | .res6E => .resetBit 6 .e
  | .res6H => .resetBit 6 .h
  | .res6L => .resetBit 6 .l
  | .res6IndHl => .resetBit 6 .indHl
  | .res6A => .resetBit 6 .a
  | .res7B => .resetBit 7 .b
  | .res7C => .resetBit 7 .c
  | .res7D => .resetBit 7 .d
  | .res7E => .resetBit 7 .e
  | .res7H => .resetBit 7 .h
  | .res7L => .resetBit 7 .l
  | .res7IndHl => .resetBit 7 .indHl
  | .res7A => .resetBit 7 .a
  | .set0B => .setBit 0 .b
  | .set0C => .setBit 0 .c
  | .set0D => .setBit 0 .d
  | .set0E => .setBit 0 .e
  | .set0H => .setBit 0 .h
  | .set0L => .setBit 0 .l
  | .set0IndHl => .setBit 0 .indHl
  | .set0A => .setBit 0 .a
  | .set1B => .setBit 1 .b
  | .set1C => .setBit 1 .c
  | .set1D => .setBit 1 .d
  | .set1E => .setBit 1 .e
  | .set1H => .setBit 1 .h
  | .set1L => .setBit 1 .l
  | .set1IndHl => .setBit 1 .indHl
  | .set1A => .setBit 1 .a
  | .set2B => .setBit 2 .b
  | .set2C => .setBit 2 .c
  | .set2D => .setBit 2 .d
  | .set2E => .setBit 2 .e
  | .set2H => .setBit 2 .h
  | .set2L => .setBit 2 .l
  | .set2IndHl => .setBit 2 .indHl
  | .set2A => .setBit 2 .a
  | .set3B => .setBit 3 .b
  | .set3C => .setBit 3 .c
  | .set3D => .setBit 3 .d
  | .set3E => .setBit 3 .e
  | .set3H => .setBit 3 .h
  | .set3L => .setBit 3 .l
  | .set3IndHl => .setBit 3 .indHl
  | .set3A => .setBit 3 .a
  | .set4B => .setBit 4 .b
  | .set4C => .setBit 4 .c
  | .set4D => .setBit 4 .d
  | .set4E => .setBit 4 .e
  | .set4H => .setBit 4 .h
  | .set4L => .setBit 4 .l
  | .set4IndHl => .setBit 4 .indHl
  | .set4A => .setBit 4 .a
  | .set5B => .setBit 5 .b
  | .set5C => .setBit 5 .c
  | .set5D => .setBit 5 .d
  | .set5E => .setBit 5 .e
  | .set5H => .setBit 5 .h
  | .set5L => .setBit 5 .l
  | .set5IndHl => .setBit 5 .indHl
  | .set5A => .setBit 5 .a
  | .set6B => .setBit 6 .b
  | .set6C => .setBit 6 .c
  | .set6D => .setBit 6 .d
  | .set6E => .setBit 6 .e
  | .set6H => .setBit 6 .h
  | .set6L => .setBit 6 .l
  | .set6IndHl => .setBit 6 .indHl
  | .set6A => .setBit 6 .a
  | .set7B => .setBit 7 .b
  | .set7C => .setBit 7 .c
  | .set7D => .setBit 7 .d
  | .set7E => .setBit 7 .e
  | .set7H => .setBit 7 .h
  | .set7L => .setBit 7 .l
  | .set7IndHl => .setBit 7 .indHl
  | .set7A => .setBit 7 .a

/-- Executing an instruction runs its operation, and always completes. -/
theorem exec_eq_run (i : Instr) (s : State) : exec i s = .next ((actionOf i).run s) := by
  cases i <;> rfl

/-! ### What no instruction touches -/

/-- What every instruction keeps: the ROM and its length, the goodness of the memory and of the low nibble of `f`, and the
fields no instruction writes. -/
structure InstrKept (s t : State) : Prop where
  stores : StoresKept s t
  cartridge : t.cartridge = s.cartridge
  params : t.params = s.params
  joypadWired : t.joypadWired = s.joypadWired
  scanline : t.ppu.scanline = s.ppu.scanline
  tick : t.ppu.tick = s.ppu.tick
  mode : t.ppu.mode = s.ppu.mode
  lastTicks : t.ppu.lastTicks = s.ppu.lastTicks
  ticks : s.ticks ≤ t.ticks
  flags : s.FlagsGood → t.FlagsGood

theorem InstrKept.refl (s : State) : InstrKept s s :=
  ⟨.refl s, rfl, rfl, rfl, rfl, rfl, rfl, rfl, Nat.le_refl _, id⟩

theorem InstrKept.trans {s t u : State} (h : InstrKept s t) (k : InstrKept t u) : InstrKept s u :=
  ⟨h.stores.trans k.stores, k.cartridge.trans h.cartridge, k.params.trans h.params, k.joypadWired.trans h.joypadWired,
    k.scanline.trans h.scanline, k.tick.trans h.tick, k.mode.trans h.mode, k.lastTicks.trans h.lastTicks,
    h.ticks.trans k.ticks, fun g => k.flags (h.flags g)⟩

/-- An update of registers other than `f`, of the latch, of `run`, of `master` or of the diagnostics. -/
theorem InstrKept.of_eq {s t : State} (hm : t.mem = s.mem) (hl : t.romLen = s.romLen) (hc : t.cartridge = s.cartridge)
    (hp : t.params = s.params) (hj : t.joypadWired = s.joypadWired) (hu : t.ppu = s.ppu) (ht : s.ticks ≤ t.ticks)
    (hf : s.FlagsGood → t.FlagsGood) : InstrKept s t :=
  ⟨.of_eq hm hl, hc, hp, hj, by rw [hu], by rw [hu], by rw [hu], by rw [hu], ht, hf⟩

theorem kept_setF (s : State) (v : Byte) : InstrKept s (s.setF v) :=
  .of_eq rfl rfl rfl rfl rfl rfl (Nat.le_refl _) fun _ => high_and_low v

theorem kept_setFlags (s : State) (fl : FlagBits) : InstrKept s (s.setFlags fl) :=
  kept_setF s _

theorem kept_setPc (s : State) (v : Word) : InstrKept s (s.setPc v) :=
  .of_eq rfl rfl rfl rfl rfl rfl (Nat.le_refl _) id

theorem kept_setSp (s : State) (v : Word) : InstrKept s (s.setSp v) :=
  .of_eq rfl rfl rfl rfl rfl rfl (Nat.le_refl _) id

theorem kept_setA (s : State) (v : Byte) : InstrKept s (s.setA v) :=
  .of_eq rfl rfl rfl rfl rfl rfl (Nat.le_refl _) id

theorem kept_setStopped (s : State) (b : Bool) : InstrKept s (s.setStopped b) :=
  .of_eq rfl rfl rfl rfl rfl rfl (Nat.le_refl _) id

theorem kept_setMaster (s : State) (b : Bool) : InstrKept s (s.setMaster b) :=
  .of_eq rfl rfl rfl rfl rfl rfl (Nat.le_refl _) id

theorem kept_setRun (s : State) (r : RunState) : InstrKept s (s.setRun r) :=
  .of_eq rfl rfl rfl rfl rfl rfl (Nat.le_refl _) id

theorem kept_addDiag (s : State) (d : Diag) : InstrKept s (s.addDiag d) :=
  .of_eq rfl rfl rfl rfl rfl rfl (Nat.le_refl _) id

theorem kept_setPending (s : State) (v : Byte) : InstrKept s (s.setPending v) :=
  .of_eq rfl rfl rfl rfl rfl rfl (Nat.le_refl _) id

theorem kept_addTicks (s : State) (n : Nat) : InstrKept s (s.addTicks n) :=
  .of_eq rfl rfl rfl rfl rfl rfl (Nat.le_add_right _ _) id

theorem kept_setPair (s : State) (p : Pair) (v : Word) : InstrKept s (s.setPair p v) := by
  cases p <;> exact .of_eq rfl rfl rfl rfl rfl rfl (Nat.le_refl _) id

theorem kept_setStackPair (s : State) (p : StackPair) (v : Word) : InstrKept s (s.setStackPair p v) := by
  cases p
  case bc => exact kept_setPair s .bc v
  case de => exact kept_setPair s .de v
  case hl => exact kept_setPair s .hl v
  case af => exact (kept_setA _ _).trans (kept_setF _ _)

theorem kept_afterRead (s : State) (a : Word) : InstrKept s (s.afterRead a) :=
  .of_eq (by simp) (by simp) (by simp) (by simp) (by simp) (by simp) (by simp) (by simp [State.FlagsGood])

theorem kept_writeByte (s : State) (a : Word) (v : Byte) : InstrKept s (s.writeByte a v) :=
  ⟨storesKept_writeByte s a v, by simp, by simp, by simp, by simp, by simp, by simp, by simp, by simp,
    by simp [State.FlagsGood]⟩

theorem kept_writeShort (s : State) (a v : Word) : InstrKept s (s.writeShort a v) :=
  (kept_writeByte s a _).trans (kept_writeByte _ _ _)

theorem kept_pushWord (s : State) (v : Word) : InstrKept s (s.pushWord v) :=
  (kept_setSp s _).trans (kept_writeShort _ _ _)

theorem kept_afterPop (s : State) : InstrKept s s.afterPop :=
  ((kept_afterRead s _).trans (kept_afterRead _ _)).trans (kept_setSp _ _)

theorem kept_afterOperand (s : State) (o : Operand8) : InstrKept s (s.afterOperand o) := by
  cases o
  case indHl => exact kept_afterRead _ _
  all_goals exact .refl s

theorem kept_writeOperand (s : State) (o : Operand8) (v : Byte) : InstrKept s (s.writeOperand o v) := by
  cases o
  case indHl => exact kept_writeByte _ _ _
  all_goals exact .of_eq rfl rfl rfl rfl rfl rfl (Nat.le_refl _) id

theorem kept_takeIllegalOpcode (op : Byte) (w : Nat) (s : State) : InstrKept s (takeIllegalOpcode op w s) :=
  ((kept_setPc s _).trans (kept_setRun _ _)).trans (kept_addDiag _ _)

theorem kept_call (nn : Word) (s : State) : InstrKept s (call nn s) :=
  (kept_pushWord s _).trans (kept_setPc _ _)

theorem kept_returnFromCall (s : State) : InstrKept s (returnFromCall s) :=
  (kept_afterPop s).trans (kept_setPc _ _)

theorem kept_alu (op : AluOp) (v : Byte) (s : State) : InstrKept s (alu op v s) :=
  (kept_setA s _).trans (kept_setFlags _ _)

theorem kept_shiftOperand (op : ShiftOp) (o : Operand8) (s : State) : InstrKept s (shiftOperand op o s) :=
  ((kept_afterOperand s o).trans (kept_setFlags _ _)).trans (kept_writeOperand _ _ _)

theorem kept_testBit (b : Fin 8) (o : Operand8) (s : State) : InstrKept s (testBit b o s) :=
  (kept_afterOperand s o).trans (kept_setFlags _ _)

theorem kept_resetBit (b : Fin 8) (o : Operand8) (s : State) : InstrKept s (resetBit b o s) :=
  (kept_afterOperand s o).trans (kept_writeOperand _ _ _)

theorem kept_setBit (b : Fin 8) (o : Operand8) (s : State) : InstrKept s (setBit b o s) :=
  (kept_afterOperand s o).trans (kept_writeOperand _ _ _)

theorem kept_cbOperation (n : Byte) (s : State) : InstrKept s (cbOperation n s) := by
  unfold cbOperation
  split
  · exact kept_shiftOperand _ _ _
  · exact kept_testBit _ _ _
  · exact kept_resetBit _ _ _
  · exact kept_setBit _ _ _

theorem kept_ite {s t u : State} {b : Bool} (h : InstrKept s t) (k : InstrKept s u) :
    InstrKept s (if b then t else u) := by
  split
  · exact h
  · exact k

theorem kept_dispatchInterrupt (i : Nat) (s : State) : InstrKept s (dispatchInterrupt i s) :=
  ((((kept_setPending s _).trans (kept_setMaster _ _)).trans (kept_pushWord _ _)).trans (kept_setPc _ _)).trans
    (kept_addTicks _ _)

/-- No operation touches the ROM, the cartridge, the parameters or the pixel-timing counters; the clock never goes back. -/
theorem Action.run_kept (x : Action) (s : State) : InstrKept s (x.run s) := by
  cases x
  case skip => exact .refl s
  case stop => exact kept_setStopped _ _
  case setMaster b => exact kept_setMaster _ _
  case trap op => exact kept_takeIllegalOpcode _ _ _
  case loadOperand dst src => exact (kept_afterOperand s src).trans (kept_writeOperand _ _ _)
  case loadImm dst n => exact kept_writeOperand _ _ _
  case loadA addr => exact (kept_afterRead s _).trans (kept_setA _ _)
  case storeA addr => exact kept_writeByte _ _ _
  case loadAStep k => exact ((kept_afterRead s _).trans (kept_setA _ _)).trans (kept_setPair _ .hl _)
  case storeAStep k => exact (kept_writeByte s _ _).trans (kept_setPair _ .hl _)
  case loadPair p nn => exact kept_setPair _ _ _
  case storeSp nn => exact kept_writeShort _ _ _
  case loadSpHl => exact kept_setSp _ _
  case push p => exact kept_pushWord _ _
  case pop p => exact (kept_afterPop s).trans (kept_setStackPair _ _ _)
  case aluOperand op o => exact (kept_afterOperand s o).trans (kept_alu _ _ _)
  case aluImm op n => exact kept_alu _ _ _
  case incOperand o => exact ((kept_afterOperand s o).trans (kept_setFlags _ _)).trans (kept_writeOperand _ _ _)
  case decOperand o => exact ((kept_afterOperand s o).trans (kept_setFlags _ _)).trans (kept_writeOperand _ _ _)
  case decimalAdjust => exact (kept_setA s _).trans (kept_setFlags _ _)
  case complementA => exact (kept_setA s _).trans (kept_setFlags _ _)
  case setCarry => exact kept_setFlags _ _
  case complementCarry => exact kept_setFlags _ _
  case incPair p => exact kept_setPair _ _ _
  case decPair p => exact kept_setPair _ _ _
  case addHl p => exact (kept_setFlags s _).trans (kept_setPair _ .hl _)
  case addSpOffset e => exact (kept_setFlags s _).trans (kept_setSp _ _)
  case loadHlSpOffset e => exact (kept_setFlags s _).trans (kept_setPair _ .hl _)
  case rotateA op => exact (kept_setA s _).trans (kept_setFlags _ _)
  case shiftOperand op o => exact kept_shiftOperand _ _ _
  case testBit b o => exact kept_testBit _ _ _
  case resetBit b o => exact kept_resetBit _ _ _
  case setBit b o => exact kept_setBit _ _ _
  case cbOperation n => exact kept_cbOperation _ _
  case jumpTo nn => exact kept_setPc _ _
  case jumpHl => exact kept_setPc _ _
  case jumpIf cc nn => exact kept_ite ((kept_setPc s _).trans (kept_addTicks _ _)) (.refl s)
  case jumpRelative e => exact kept_setPc _ _
  case jumpRelativeIf cc e => exact kept_ite ((kept_setPc s _).trans (kept_addTicks _ _)) (.refl s)
  case call nn => exact kept_call _ _
  case callIf cc nn => exact kept_ite ((kept_call nn s).trans (kept_addTicks _ _)) (.refl s)
  case returnFromCall => exact kept_returnFromCall _
  case returnIf cc => exact kept_ite ((kept_returnFromCall s).trans (kept_addTicks _ _)) (.refl s)
  case returnFromInterrupt => exact (kept_setMaster s _).trans (kept_returnFromCall _)

end Sys2Proof.Machine
end

