-- ==== Sys2Proof/Laws/Fields.lean ====
section
/-! SUPPORT. Which shared operations write the latch, `master`, the clock and `pc`: the operand operations write none of them,
and each of the four is written only by the operations named here. -/

namespace Sys2Proof.Machine

/-! ### Operand operations -/

@[simp] theorem setPair_stopped (s : State) (p : Pair) (v : Word) : (s.setPair p v).stopped = s.stopped := by cases p <;> rfl
@[simp] theorem setPair_ticks (s : State) (p : Pair) (v : Word) : (s.setPair p v).ticks = s.ticks := by cases p <;> rfl
@[simp] theorem setPair_intr (s : State) (p : Pair) (v : Word) : (s.setPair p v).intr = s.intr := by cases p <;> rfl
@[simp] theorem setPair_pc (s : State) (p : Pair) (v : Word) : (s.setPair p v).regs.pc = s.regs.pc := by cases p <;> rfl

@[simp] theorem setStackPair_stopped (s : State) (p : StackPair) (v : Word) : (s.setStackPair p v).stopped = s.stopped := by
  cases p <;> rfl
@[simp] theorem setStackPair_ticks (s : State) (p : StackPair) (v : Word) : (s.setStackPair p v).ticks = s.ticks := by
  cases p <;> rfl
@[simp] theorem setStackPair_intr (s : State) (p : StackPair) (v : Word) : (s.setStackPair p v).intr = s.intr := by
  cases p <;> rfl
@[simp] theorem setStackPair_pc (s : State) (p : StackPair) (v : Word) : (s.setStackPair p v).regs.pc = s.regs.pc := by
  cases p <;> rfl

@[simp] theorem afterOperand_stopped (s : State) (o : Operand8) : (s.afterOperand o).stopped = s.stopped := by
  cases o <;> simp [State.afterOperand]
@[simp] theorem afterOperand_ticks (s : State) (o : Operand8) : (s.afterOperand o).ticks = s.ticks := by
  cases o <;> simp [State.afterOperand]
@[simp] theorem afterOperand_intr (s : State) (o : Operand8) : (s.afterOperand o).intr = s.intr := by
  cases o <;> simp [State.afterOperand]
@[simp] theorem afterOperand_regs (s : State) (o : Operand8) : (s.afterOperand o).regs = s.regs := by
  cases o <;> simp [State.afterOperand]

@[simp] theorem writeOperand_stopped (s : State) (o : Operand8) (v : Byte) : (s.writeOperand o v).stopped = s.stopped := by
  cases o <;> simp [State.writeOperand]
@[simp] theorem writeOperand_ticks (s : State) (o : Operand8) (v : Byte) : (s.writeOperand o v).ticks = s.ticks := by
  cases o <;> simp [State.writeOperand]
@[simp] theorem writeOperand_master (s : State) (o : Operand8) (v : Byte) :
    (s.writeOperand o v).intr.master = s.intr.master := by
  cases o <;> simp [State.writeOperand]
@[simp] theorem writeOperand_pc (s : State) (o : Operand8) (v : Byte) : (s.writeOperand o v).regs.pc = s.regs.pc := by
  cases o <;> simp [State.writeOperand]

/-! ### Who writes what -/

/-- The operations that may add their own cost. -/
def Action.conditional : Action → Bool
  | .jumpIf .. | .jumpRelativeIf .. | .callIf .. | .returnIf .. => true
  | _ => false

/-- The operations that may write `pc`. -/
def Action.transfers : Action → Bool
  | .trap .. | .jumpTo .. | .jumpHl | .jumpIf .. | .jumpRelative .. | .jumpRelativeIf .. | .call .. | .callIf ..
  | .returnFromCall | .returnIf .. | .returnFromInterrupt => true
  | _ => false

/-- The operations that write `master`. -/
def Action.writesMaster : Action → Bool
  | .setMaster .. | .returnFromInterrupt => true
  | _ => false

theorem cbOperation_cases (n : Byte) (s : State) :
    ∃ (o : Operand8) (u : State), (u = s.afterOperand o ∨ ∃ fl, u = (s.afterOperand o).setFlags fl) ∧
      (cbOperation n s = u ∨ ∃ v, cbOperation n s = u.writeOperand o v) := by
  unfold cbOperation
  split
  · exact ⟨_, _, .inr ⟨_, rfl⟩, .inr ⟨_, rfl⟩⟩
  · exact ⟨_, _, .inr ⟨_, rfl⟩, .inl rfl⟩
  · exact ⟨_, _, .inl rfl, .inr ⟨_, rfl⟩⟩
  · exact ⟨_, _, .inl rfl, .inr ⟨_, rfl⟩⟩

@[simp] theorem cbOperation_stopped (n : Byte) (s : State) : (cbOperation n s).stopped = s.stopped := by
  obtain ⟨o, u, rfl | ⟨fl, rfl⟩, h | ⟨v, h⟩⟩ := cbOperation_cases n s <;> simp [h]
@[simp] theorem cbOperation_ticks (n : Byte) (s : State) : (cbOperation n s).ticks = s.ticks := by
  obtain ⟨o, u, rfl | ⟨fl, rfl⟩, h | ⟨v, h⟩⟩ := cbOperation_cases n s <;> simp [h]
@[simp] theorem cbOperation_master (n : Byte) (s : State) : (cbOperation n s).intr.master = s.intr.master := by
  obtain ⟨o, u, rfl | ⟨fl, rfl⟩, h | ⟨v, h⟩⟩ := cbOperation_cases n s <;> simp [h]
@[simp] theorem cbOperation_pc (n : Byte) (s : State) : (cbOperation n s).regs.pc = s.regs.pc := by
  obtain ⟨o, u, rfl | ⟨fl, rfl⟩, h | ⟨v, h⟩⟩ := cbOperation_cases n s <;> simp [h]

/-- Only STOP writes the latch. -/
theorem run_stopped {x : Action} (h : x ≠ .stop) (s : State) : (x.run s).stopped = s.stopped := by
  cases x <;> first
    | exact absurd rfl h
    | (simp [Action.run, loadOperand, takeIllegalOpcode, loadA, storeA, popTo, aluOperand, alu, aluOut, incOperand, decOperand,
        decimalAdjust, complementA, setCarry, complementCarry, incPair, decPair, addHlPair, addSpOffset, loadHlSpOffset,
        rotateA, shiftOperand, testBit, resetBit, setBit, jumpRelative, call, returnFromCall, returnFromInterrupt]; done)
    | (simp only [Action.run, jumpIf, jumpRelativeIf, callIf, returnIf]
       split <;> simp [jumpRelative, call, returnFromCall])

/-- Only DI, EI and RETI write `master`. -/
theorem run_master {x : Action} (h : x.writesMaster = false) (s : State) :
    (x.run s).intr.master = s.intr.master := by
  cases x <;> first
    | (cases h; done)
    | (simp [Action.run, loadOperand, takeIllegalOpcode, loadA, storeA, popTo, aluOperand, alu, aluOut, incOperand, decOperand,
        decimalAdjust, complementA, setCarry, complementCarry, incPair, decPair, addHlPair, addSpOffset, loadHlSpOffset,
        rotateA, shiftOperand, testBit, resetBit, setBit, jumpRelative, call, returnFromCall]; done)
    | (simp only [Action.run, jumpIf, jumpRelativeIf, callIf, returnIf]
       split <;> simp [jumpRelative, call, returnFromCall])

/-- Only the conditional transfers add to the clock. -/
theorem run_ticks {x : Action} (h : x.conditional = false) (s : State) : (x.run s).ticks = s.ticks := by
  cases x <;> first
    | (cases h; done)
    | (simp [Action.run, loadOperand, takeIllegalOpcode, loadA, storeA, popTo, aluOperand, alu, aluOut, incOperand, decOperand,
        decimalAdjust, complementA, setCarry, complementCarry, incPair, decPair, addHlPair, addSpOffset, loadHlSpOffset,
        rotateA, shiftOperand, testBit, resetBit, setBit, jumpRelative, call, returnFromCall, returnFromInterrupt]; done)

/-- Only the transfers and the trap write `pc`. -/
theorem run_pc {x : Action} (h : x.transfers = false) (s : State) : (x.run s).regs.pc = s.regs.pc := by
  cases x <;> first
    | (cases h; done)
    | (simp [Action.run, loadOperand, loadA, storeA, popTo, aluOperand, alu, aluOut, incOperand, decOperand,
        decimalAdjust, complementA, setCarry, complementCarry, incPair, decPair, addHlPair, addSpOffset, loadHlSpOffset,
        rotateA, shiftOperand, testBit, resetBit, setBit]; done)

end Sys2Proof.Machine
end

