-- ==== Sys2Proof/Laws/Step.lean ====
section
/-! SUPPORT. What each part of an iteration can do, said once: fetching, the CPU step, the pixel-timing step, the interrupt
step, and the step itself. -/

namespace Sys2Proof.Machine

/-! ### Fetching -/

theorem kept_afterFetch (n : Nat) (a : Word) (s : State) : InstrKept s (afterFetch n a s) := by
  induction n generalizing a s with
  | zero => exact .refl s
  | succ n ih => exact (kept_afterRead s a).trans (ih _ _)

@[simp] theorem afterFetch_regs (n : Nat) (a : Word) (s : State) : (afterFetch n a s).regs = s.regs := by
  induction n generalizing a s with
  | zero => rfl
  | succ n ih => simp [afterFetch, ih]

@[simp] theorem afterFetch_run (n : Nat) (a : Word) (s : State) : (afterFetch n a s).run = s.run := by
  induction n generalizing a s with
  | zero => rfl
  | succ n ih => simp [afterFetch, ih]

@[simp] theorem afterFetch_stopped (n : Nat) (a : Word) (s : State) : (afterFetch n a s).stopped = s.stopped := by
  induction n generalizing a s with
  | zero => rfl
  | succ n ih => simp [afterFetch, ih]

@[simp] theorem afterFetch_ticks (n : Nat) (a : Word) (s : State) : (afterFetch n a s).ticks = s.ticks := by
  induction n generalizing a s with
  | zero => rfl
  | succ n ih => simp [afterFetch, ih]

@[simp] theorem afterFetch_intr (n : Nat) (a : Word) (s : State) : (afterFetch n a s).intr = s.intr := by
  induction n generalizing a s with
  | zero => rfl
  | succ n ih => simp [afterFetch, ih]

theorem kept_atHandler (s : State) : InstrKept s s.atHandler :=
  (kept_afterFetch _ _ s).trans (kept_setPc _ _)

@[simp] theorem atHandler_run (s : State) : s.atHandler.run = s.run := by
  simp [State.atHandler]

@[simp] theorem atHandler_regs (s : State) :
    s.atHandler.regs = { s.regs with pc := s.regs.pc + BitVec.ofNat 16 s.fetchedLength } := by
  simp [State.atHandler]

@[simp] theorem fetchBytes_length (n : Nat) (a : Word) (s : State) : (fetchBytes n a s).length = n := by
  induction n generalizing a s with
  | zero => rfl
  | succ n ih => simp [fetchBytes, ih]

/-! ### The CPU step -/

/-- A CPU step is a stopped no-op, a trap, or one decoded instruction and its base cost. -/
theorem cpuStep_next {s t : State} (h : cpuStep s = .next t) :
    (s.stopped = true ∧ t = s) ∨
    (s.stopped = false ∧ s.params.traps s.fetchedOpcode = true ∧
      t = takeIllegalOpcode s.fetchedOpcode (operandWidth s.fetchedOpcode) s.atHandler) ∨
    (s.stopped = false ∧ s.params.traps s.fetchedOpcode = false ∧
      ∃ i rest, decode s.fetchedBytes = .ok (i, rest) ∧
        t = ((actionOf i).run s.atHandler).addTicks (s.params.baseCost s.fetchedBytes)) := by
  unfold cpuStep at h
  split at h
  next hs => exact .inl ⟨hs, by simpa using h.symm⟩
  next hs =>
    have hs' : s.stopped = false := by simpa using hs
    split at h
    next ht => exact .inr (.inl ⟨hs', ht, by simpa using h.symm⟩)
    next ht =>
      split at h
      next i rest hd =>
        simp only [runInstruction, exec_eq_run, Host.Outcome.next.injEq] at h
        exact .inr (.inr ⟨hs', by simpa using ht, i, rest, hd, h.symm⟩)
      next => simp at h

theorem kept_cpuStep {s t : State} (h : cpuStep s = .next t) : InstrKept s t := by
  rcases cpuStep_next h with ⟨-, rfl⟩ | ⟨-, -, rfl⟩ | ⟨-, -, i, rest, -, rfl⟩
  · exact .refl _
  · exact (kept_atHandler s).trans (kept_takeIllegalOpcode _ _ _)
  · exact ((kept_atHandler s).trans (Action.run_kept _ _)).trans (kept_addTicks _ _)

/-! ### The pixel-timing step -/

theorem ppuStep_cases (s : State) :
    ((accrueTicks s).ppu.tick < modeCycles s.ppu.mode ∧ ppuStep s = accrueTicks s) ∨
    (modeCycles s.ppu.mode ≤ (accrueTicks s).ppu.tick ∧ ppuStep s = leaveMode (accrueTicks s)) := by
  by_cases h : modeCycles s.ppu.mode ≤ (accrueTicks s).ppu.tick
  · exact .inr ⟨h, if_pos h⟩
  · exact .inl ⟨Nat.lt_of_not_le h, if_neg h⟩

/-- The pixel-timing step writes only its own counters and the VBLANK request. -/
theorem ppuStep_frame (s : State) :
    ppuStep s = { s with
      ppu := { s.ppu with
        tick := (ppuStep s).ppu.tick
        scanline := (ppuStep s).ppu.scanline
        mode := (ppuStep s).ppu.mode
        lastTicks := s.ticks }
      intr := { s.intr with pending := (ppuStep s).intr.pending } } := by
  rcases ppuStep_cases s with ⟨-, h⟩ | ⟨-, h⟩
  · rw [h]; rfl
  · rw [h]
    unfold leaveMode
    split <;> rfl

/-! ### The interrupt step -/

theorem lowestSource_lt {act : Byte} {i : Nat} (h : lowestSource act = some i) : i < 5 ∧ act.getLsbD i = true := by
  unfold lowestSource at h
  split at h
  next h0 => cases h; exact ⟨by omega, h0⟩
  split at h
  next h1 => cases h; exact ⟨by omega, h1⟩
  split at h
  next h2 => cases h; exact ⟨by omega, h2⟩
  split at h
  next h3 => cases h; exact ⟨by omega, h3⟩
  split at h
  next h4 => cases h; exact ⟨by omega, h4⟩
  cases h

/-- The interrupt step dispatches one active source with `master` set, or does nothing. -/
theorem intStep_cases (s : State) :
    (intStep s = s ∧ (s.intr.master = false ∨ lowestSource s.activeSources = none)) ∨
    (∃ i, s.intr.master = true ∧ lowestSource s.activeSources = some i ∧ intStep s = dispatchInterrupt i s) := by
  unfold intStep
  split
  next hm =>
    split
    next i hi => exact .inr ⟨i, hm, hi, rfl⟩
    next hi => exact .inl ⟨rfl, .inr hi⟩
  next hm => exact .inl ⟨rfl, .inl (by simpa using hm)⟩

theorem kept_intStep (s : State) : InstrKept s (intStep s) := by
  rcases intStep_cases s with ⟨h, -⟩ | ⟨i, -, -, h⟩
  · rw [h]; exact .refl s
  · rw [h]; exact kept_dispatchInterrupt i s

/-! ### The step -/

/-- A step with a next state: a loaded, running machine, a CPU step that did not trap, then the two other agents. -/
theorem step_next {s t : State} (h : step s = .next t) :
    s.cartridge = .loaded ∧ s.run = .running ∧
      ∃ u, cpuStep s = .next u ∧ u.run = .running ∧ t = intStep (ppuStep u) := by
  unfold step iterate at h
  split at h <;> try contradiction
  next hc =>
    split at h <;> try contradiction
    next hr =>
      split at h <;> try contradiction
      next u hu =>
        unfold finishIteration at h
        split at h
        next => cases h
        next hur => exact ⟨hc, hr, u, hu, hur, by simpa using h.symm⟩

end Sys2Proof.Machine
end

