-- ==== Sys2Proof/Tests/Slice0.lean ====
section
/-! SUPPORT. The model's own tests. Decoding: every constructor by a word written out from the spec's encoding
(30_encoding.md R126, R134, and the `encoding` of each row of opcode_table.json). Single instructions: the vectors and examples
of 95_test_vectors.md and of the rules named. Witnesses: for each hypothesis of a statement, a concrete state and operands
that meet it. -/

namespace Sys2Proof.Tests

open Sys2Proof Sys2Proof.Machine Sys2Proof.Claims

/-- The bytes are exactly one instruction. -/
def isInstr (bytes : List Byte) (i : Instr) : Prop :=
  decode bytes = .ok (i, [])

/-! ### Well-formedness: the one ill-formed term -/

theorem test_wellFormed_refuses_bare_prefix : (Instr.prefixCb 0x37).wellFormed = false := by decide

theorem test_wellFormed_accepts : (Instr.ldHlNn 0xFFFF).wellFormed = true ∧ (Instr.swapA).wellFormed = true := by decide

theorem test_decode_rejects_short : decode [] = .error .noOpcode ∧ decode [0x3E] = .error (.truncatedOperand 0x3E) ∧
    decode [0x21, 0x00] = .error (.truncatedOperand 0x21) ∧ decode [0xCB] = .error (.truncatedOperand 0xCB) :=
  ⟨rfl, rfl, rfl, rfl⟩

theorem test_decode_row_0x :
    isInstr [0b00000000] .nop ∧
    isInstr [0b00000001, 0x34, 0x12] (.ldBcNn 0x1234) ∧
    isInstr [0b00000010] .ldIndBcA ∧
    isInstr [0b00000011] .incBc ∧
    isInstr [0b00000100] .incB ∧
    isInstr [0b00000101] .decB ∧
    isInstr [0b00000110, 0x5A] (.ldBN 0x5A) ∧
    isInstr [0b00000111] .rlca ∧
    isInstr [0b00001000, 0x34, 0x12] (.ldIndNnSp 0x1234) ∧
    isInstr [0b00001001] .addHlBc ∧
    isInstr [0b00001010] .ldAIndBc ∧
    isInstr [0b00001011] .decBc ∧
    isInstr [0b00001100] .incC ∧
    isInstr [0b00001101] .decC ∧
    isInstr [0b00001110, 0x5A] (.ldCN 0x5A) ∧
    isInstr [0b00001111] .rrca :=
  ⟨rfl, rfl, rfl, rfl, rfl, rfl, rfl, rfl, rfl, rfl, rfl, rfl, rfl, rfl, rfl, rfl⟩

theorem test_decode_row_1x :
    isInstr [0b00010000, 0x5A] (.stop 0x5A) ∧
    isInstr [0b00010001, 0x34, 0x12] (.ldDeNn 0x1234) ∧
    isInstr [0b00010010] .ldIndDeA ∧
    isInstr [0b00010011] .incDe ∧
    isInstr [0b00010100] .incD ∧
    isInstr [0b00010101] .decD ∧
    isInstr [0b00010110, 0x5A] (.ldDN 0x5A) ∧
    isInstr [0b00010111] .rla ∧
    isInstr [0b00011000, 0xFE] (.jrE 0xFE) ∧
    isInstr [0b00011001] .addHlDe ∧
    isInstr [0b00011010] .ldAIndDe ∧
    isInstr [0b00011011] .decDe ∧
    isInstr [0b00011100] .incE ∧
    isInstr [0b00011101] .decE ∧
    isInstr [0b00011110, 0x5A] (.ldEN 0x5A) ∧
    isInstr [0b00011111] .rra :=
  ⟨rfl, rfl, rfl, rfl, rfl, rfl, rfl, rfl, rfl, rfl, rfl, rfl, rfl, rfl, rfl, rfl⟩

theorem test_decode_row_2x :
    isInstr [0b00100000, 0xFE] (.jrNzE 0xFE) ∧
    isInstr [0b00100001, 0x34, 0x12] (.ldHlNn 0x1234) ∧
    isInstr [0b00100010] .ldIndHlIncA ∧
    isInstr [0b00100011] .incHl ∧
    isInstr [0b00100100] .incH ∧
    isInstr [0b00100101] .decH ∧
    isInstr [0b00100110, 0x5A] (.ldHN 0x5A) ∧
    isInstr [0b00100111] .daa ∧
    isInstr [0b00101000, 0xFE] (.jrZE 0xFE) ∧
    isInstr [0b00101001] .addHlHl ∧
    isInstr [0b00101010] .ldAIndHlInc ∧
    isInstr [0b00101011] .decHl ∧
    isInstr [0b00101100] .incL ∧
    isInstr [0b00101101] .decL ∧
    isInstr [0b00101110, 0x5A] (.ldLN 0x5A) ∧
    isInstr [0b00101111] .cpl :=
  ⟨rfl, rfl, rfl, rfl, rfl, rfl, rfl, rfl, rfl, rfl, rfl, rfl, rfl, rfl, rfl, rfl⟩

theorem test_decode_row_3x :
    isInstr [0b00110000, 0xFE] (.jrNcE 0xFE) ∧
    isInstr [0b00110001, 0x34, 0x12] (.ldSpNn 0x1234) ∧
    isInstr [0b00110010] .ldIndHlDecA ∧
    isInstr [0b00110011] .incSp ∧
    isInstr [0b00110100] .incIndHl ∧
    isInstr [0b00110101] .decIndHl ∧
    isInstr [0b00110110, 0x5A] (.ldIndHlN 0x5A) ∧
    isInstr [0b00110111] .scf ∧
    isInstr [0b00111000, 0xFE] (.jrCE 0xFE) ∧
    isInstr [0b00111001] .addHlSp ∧
    isInstr [0b00111010] .ldAIndHlDec ∧
    isInstr [0b00111011] .decSp ∧
    isInstr [0b00111100] .incA ∧
    isInstr [0b00111101] .decA ∧
    isInstr [0b00111110, 0x5A] (.ldAN 0x5A) ∧
    isInstr [0b00111111] .ccf :=
  ⟨rfl, rfl, rfl, rfl, rfl, rfl, rfl, rfl, rfl, rfl, rfl, rfl, rfl, rfl, rfl, rfl⟩

theorem test_decode_row_4x :
    isInstr [0b01000000] .ldBB ∧
    isInstr [0b01000001] .ldBC ∧
    isInstr [0b01000010] .ldBD ∧
    isInstr [0b01000011] .ldBE ∧
    isInstr [0b01000100] .ldBH ∧
    isInstr [0b01000101] .ldBL ∧
    isInstr [0b01000110] .ldBIndHl ∧
    isInstr [0b01000111] .ldBA ∧
    isInstr [0b01001000] .ldCB ∧
    isInstr [0b01001001] .ldCC ∧
    isInstr [0b01001010] .ldCD ∧
    isInstr [0b01001011] .ldCE ∧
    isInstr [0b01001100] .ldCH ∧
    isInstr [0b01001101] .ldCL ∧
    isInstr [0b01001110] .ldCIndHl ∧
    isInstr [0b01001111] .ldCA :=
  ⟨rfl, rfl, rfl, rfl, rfl, rfl, rfl, rfl, rfl, rfl, rfl, rfl, rfl, rfl, rfl, rfl⟩

theorem test_decode_row_5x :
    isInstr [0b01010000] .ldDB ∧
    isInstr [0b01010001] .ldDC ∧
    isInstr [0b01010010] .ldDD ∧
    isInstr [0b01010011] .ldDE ∧
    isInstr [0b01010100] .ldDH ∧
    isInstr [0b01010101] .ldDL ∧
    isInstr [0b01010110] .ldDIndHl ∧
    isInstr [0b01010111] .ldDA ∧
    isInstr [0b01011000] .ldEB ∧
    isInstr [0b01011001] .ldEC ∧
    isInstr [0b01011010] .ldED ∧
    isInstr [0b01011011] .ldEE ∧
    isInstr [0b01011100] .ldEH ∧
    isInstr [0b01011101] .ldEL ∧
    isInstr [0b01011110] .ldEIndHl ∧
    isInstr [0b01011111] .ldEA :=
  ⟨rfl, rfl, rfl, rfl, rfl, rfl, rfl, rfl, rfl, rfl, rfl, rfl, rfl, rfl, rfl, rfl⟩

theorem test_decode_row_6x :
    isInstr [0b01100000] .ldHB ∧
    isInstr [0b01100001] .ldHC ∧
    isInstr [0b01100010] .ldHD ∧
    isInstr [0b01100011] .ldHE ∧
    isInstr [0b01100100] .ldHH ∧
    isInstr [0b01100101] .ldHL ∧
    isInstr [0b01100110] .ldHIndHl ∧
    isInstr [0b01100111] .ldHA ∧
    isInstr [0b01101000] .ldLB ∧
    isInstr [0b01101001] .ldLC ∧
    isInstr [0b01101010] .ldLD ∧
    isInstr [0b01101011] .ldLE ∧
    isInstr [0b01101100] .ldLH ∧
    isInstr [0b01101101] .ldLL ∧
    isInstr [0b01101110] .ldLIndHl ∧
    isInstr [0b01101111] .ldLA :=
  ⟨rfl, rfl, rfl, rfl, rfl, rfl, rfl, rfl, rfl, rfl, rfl, rfl, rfl, rfl, rfl, rfl⟩

theorem test_decode_row_7x :
    isInstr [0b01110000] .ldIndHlB ∧
    isInstr [0b01110001] .ldIndHlC ∧
    isInstr [0b01110010] .ldIndHlD ∧
    isInstr [0b01110011] .ldIndHlE ∧
    isInstr [0b01110100] .ldIndHlH ∧
    isInstr [0b01110101] .ldIndHlL ∧
    isInstr [0b01110110] .halt ∧
    isInstr [0b01110111] .ldIndHlA ∧
    isInstr [0b01111000] .ldAB ∧
    isInstr [0b01111001] .ldAC ∧
    isInstr [0b01111010] .ldAD ∧
    isInstr [0b01111011] .ldAE ∧
    isInstr [0b01111100] .ldAH ∧
    isInstr [0b01111101] .ldAL ∧
    isInstr [0b01111110] .ldAIndHl ∧
    isInstr [0b01111111] .ldAA :=
  ⟨rfl, rfl, rfl, rfl, rfl, rfl, rfl, rfl, rfl, rfl, rfl, rfl, rfl, rfl, rfl, rfl⟩

theorem test_decode_row_8x :
    isInstr [0b10000000] .addAB ∧
    isInstr [0b10000001] .addAC ∧
    isInstr [0b10000010] .addAD ∧
    isInstr [0b10000011] .addAE ∧
    isInstr [0b10000100] .addAH ∧
    isInstr [0b10000101] .addAL ∧
    isInstr [0b10000110] .addAIndHl ∧
    isInstr [0b10000111] .addAA ∧
    isInstr [0b10001000] .adcAB ∧
    isInstr [0b10001001] .adcAC ∧
    isInstr [0b10001010] .adcAD ∧
    isInstr [0b10001011] .adcAE ∧
    isInstr [0b10001100] .adcAH ∧
    isInstr [0b10001101] .adcAL ∧
    isInstr [0b10001110] .adcAIndHl ∧
    isInstr [0b10001111] .adcAA :=
  ⟨rfl, rfl, rfl, rfl, rfl, rfl, rfl, rfl, rfl, rfl, rfl, rfl, rfl, rfl, rfl, rfl⟩

theorem test_decode_row_9x :
    isInstr [0b10010000] .subB ∧
    isInstr [0b10010001] .subC ∧
    isInstr [0b10010010] .subD ∧
    isInstr [0b10010011] .subE ∧
    isInstr [0b10010100] .subH ∧
    isInstr [0b10010101] .subL ∧
    isInstr [0b10010110] .subIndHl ∧
    isInstr [0b10010111] .subA ∧
    isInstr [0b10011000] .sbcAB ∧
    isInstr [0b10011001] .sbcAC ∧
    isInstr [0b10011010] .sbcAD ∧
    isInstr [0b10011011] .sbcAE ∧
    isInstr [0b10011100] .sbcAH ∧
    isInstr [0b10011101] .sbcAL ∧
    isInstr [0b10011110] .sbcAIndHl ∧
    isInstr [0b10011111] .sbcAA :=
  ⟨rfl, rfl, rfl, rfl, rfl, rfl, rfl, rfl, rfl, rfl, rfl, rfl, rfl, rfl, rfl, rfl⟩

theorem test_decode_row_Ax :
    isInstr [0b10100000] .andB ∧
    isInstr [0b10100001] .andC ∧
    isInstr [0b10100010] .andD ∧
    isInstr [0b10100011] .andE ∧
    isInstr [0b10100100] .andH ∧
    isInstr [0b10100101] .andL ∧
    isInstr [0b10100110] .andIndHl ∧
    isInstr [0b10100111] .andA ∧
    isInstr [0b10101000] .xorB ∧
    isInstr [0b10101001] .xorC ∧
    isInstr [0b10101010] .xorD ∧
    isInstr [0b10101011] .xorE ∧
    isInstr [0b10101100] .xorH ∧
    isInstr [0b10101101] .xorL ∧
    isInstr [0b10101110] .xorIndHl ∧
    isInstr [0b10101111] .xorA :=
  ⟨rfl, rfl, rfl, rfl, rfl, rfl, rfl, rfl, rfl, rfl, rfl, rfl, rfl, rfl, rfl, rfl⟩

theorem test_decode_row_Bx :
    isInstr [0b10110000] .orB ∧
    isInstr [0b10110001] .orC ∧
    isInstr [0b10110010] .orD ∧
    isInstr [0b10110011] .orE ∧
    isInstr [0b10110100] .orH ∧
    isInstr [0b10110101] .orL ∧
    isInstr [0b10110110] .orIndHl ∧
    isInstr [0b10110111] .orA ∧
    isInstr [0b10111000] .cpB ∧
    isInstr [0b10111001] .cpC ∧
    isInstr [0b10111010] .cpD ∧
    isInstr [0b10111011] .cpE ∧
    isInstr [0b10111100] .cpH ∧
    isInstr [0b10111101] .cpL ∧
    isInstr [0b10111110] .cpIndHl ∧
    isInstr [0b10111111] .cpA :=
  ⟨rfl, rfl, rfl, rfl, rfl, rfl, rfl, rfl, rfl, rfl, rfl, rfl, rfl, rfl, rfl, rfl⟩

theorem test_decode_row_Cx :
    isInstr [0b11000000] .retNz ∧
    isInstr [0b11000001] .popBc ∧
    isInstr [0b11000010, 0x34, 0x12] (.jpNzNn 0x1234) ∧
    isInstr [0b11000011, 0x34, 0x12] (.jpNn 0x1234) ∧
    isInstr [0b11000100, 0x34, 0x12] (.callNzNn 0x1234) ∧
    isInstr [0b11000101] .pushBc ∧
    isInstr [0b11000110, 0x5A] (.addAN 0x5A) ∧
    isInstr [0b11000111] .rst00 ∧
    isInstr [0b11001000] .retZ ∧
    isInstr [0b11001001] .ret ∧
    isInstr [0b11001010, 0x34, 0x12] (.jpZNn 0x1234) ∧
    isInstr [0b11001100, 0x34, 0x12] (.callZNn 0x1234) ∧
    isInstr [0b11001101, 0x34, 0x12] (.callNn 0x1234) ∧
    isInstr [0b11001110, 0x5A] (.adcAN 0x5A) ∧
    isInstr [0b11001111] .rst08 :=
  ⟨rfl, rfl, rfl, rfl, rfl, rfl, rfl, rfl, rfl, rfl, rfl, rfl, rfl, rfl, rfl⟩

theorem test_decode_row_Dx :
    isInstr [0b11010000] .retNc ∧
    isInstr [0b11010001] .popDe ∧
    isInstr [0b11010010, 0x34, 0x12] (.jpNcNn 0x1234) ∧
    isInstr [0b11010011] .illegalD3 ∧
    isInstr [0b11010100, 0x34, 0x12] (.callNcNn 0x1234) ∧
    isInstr [0b11010101] .pushDe ∧
    isInstr [0b11010110, 0x5A] (.subN 0x5A) ∧
    isInstr [0b11010111] .rst10 ∧
    isInstr [0b11011000] .retC ∧
    isInstr [0b11011001] .reti ∧
    isInstr [0b11011010, 0x34, 0x12] (.jpCNn 0x1234) ∧
    isInstr [0b11011011] .illegalDB ∧
    isInstr [0b11011100, 0x34, 0x12] (.callCNn 0x1234) ∧
    isInstr [0b11011101] .illegalDD ∧
    isInstr [0b11011110, 0x5A] (.sbcAN 0x5A) ∧
    isInstr [0b11011111] .rst18 :=
  ⟨rfl, rfl, rfl, rfl, rfl, rfl, rfl, rfl, rfl, rfl, rfl, rfl, rfl, rfl, rfl, rfl⟩

theorem test_decode_row_Ex :
    isInstr [0b11100000, 0x5A] (.ldhIndNA 0x5A) ∧
    isInstr [0b11100001] .popHl ∧
    isInstr [0b11100010] .ldIndCA ∧
    isInstr [0b11100011] .illegalE3 ∧
    isInstr [0b11100100] .illegalE4 ∧
    isInstr [0b11100101] .pushHl ∧
    isInstr [0b11100110, 0x5A] (.andN 0x5A) ∧
    isInstr [0b11100111] .rst20 ∧
    isInstr [0b11101000, 0xFE] (.addSpE 0xFE) ∧
    isInstr [0b11101001] .jpHl ∧
    isInstr [0b11101010, 0x34, 0x12] (.ldIndNnA 0x1234) ∧
    isInstr [0b11101011] .illegalEB ∧
    isInstr [0b11101100] .illegalEC ∧
    isInstr [0b11101101] .illegalED ∧
    isInstr [0b11101110, 0x5A] (.xorN 0x5A) ∧
    isInstr [0b11101111] .rst28 :=
  ⟨rfl, rfl, rfl, rfl, rfl, rfl, rfl, rfl, rfl, rfl, rfl, rfl, rfl, rfl, rfl, rfl⟩

theorem test_decode_row_Fx :
    isInstr [0b11110000, 0x5A] (.ldhAIndN 0x5A) ∧
    isInstr [0b11110001] .popAf ∧
    isInstr [0b11110010] .ldAIndC ∧
    isInstr [0b11110011] .di ∧
    isInstr [0b11110100] .illegalF4 ∧
    isInstr [0b11110101] .pushAf ∧
    isInstr [0b11110110, 0x5A] (.orN 0x5A) ∧
    isInstr [0b11110111] .rst30 ∧
    isInstr [0b11111000, 0xFE] (.ldHlSpE 0xFE) ∧
    isInstr [0b11111001] .ldSpHl ∧
    isInstr [0b11111010, 0x34, 0x12] (.ldAIndNn 0x1234) ∧
    isInstr [0b11111011] .ei ∧
    isInstr [0b11111100] .illegalFC ∧
    isInstr [0b11111101] .illegalFD ∧
    isInstr [0b11111110, 0x5A] (.cpN 0x5A) ∧
    isInstr [0b11111111] .rst38 :=
  ⟨rfl, rfl, rfl, rfl, rfl, rfl, rfl, rfl, rfl, rfl, rfl, rfl, rfl, rfl, rfl, rfl⟩

theorem test_decode_cb_row_0x :
    isInstr [0b11001011, 0b00000000] .rlcB ∧
    isInstr [0b11001011, 0b00000001] .rlcC ∧
    isInstr [0b11001011, 0b00000010] .rlcD ∧
    isInstr [0b11001011, 0b00000011] .rlcE ∧
    isInstr [0b11001011, 0b00000100] .rlcH ∧
    isInstr [0b11001011, 0b00000101] .rlcL ∧
    isInstr [0b11001011, 0b00000110] .rlcIndHl ∧
    isInstr [0b11001011, 0b00000111] .rlcA ∧
    isInstr [0b11001011, 0b00001000] .rrcB ∧
    isInstr [0b11001011, 0b00001001] .rrcC ∧
    isInstr [0b11001011, 0b00001010] .rrcD ∧
    isInstr [0b11001011, 0b00001011] .rrcE ∧
    isInstr [0b11001011, 0b00001100] .rrcH ∧
    isInstr [0b11001011, 0b00001101] .rrcL ∧
    isInstr [0b11001011, 0b00001110] .rrcIndHl ∧
    isInstr [0b11001011, 0b00001111] .rrcA :=
  ⟨rfl, rfl, rfl, rfl, rfl, rfl, rfl, rfl, rfl, rfl, rfl, rfl, rfl, rfl, rfl, rfl⟩

theorem test_decode_cb_row_1x :
    isInstr [0b11001011, 0b00010000] .rlB ∧
    isInstr [0b11001011, 0b00010001] .rlC ∧
    isInstr [0b11001011, 0b00010010] .rlD ∧
    isInstr [0b11001011, 0b00010011] .rlE ∧
    isInstr [0b11001011, 0b00010100] .rlH ∧
    isInstr [0b11001011, 0b00010101] .rlL ∧
    isInstr [0b11001011, 0b00010110] .rlIndHl ∧
    isInstr [0b11001011, 0b00010111] .rlA ∧
    isInstr [0b11001011, 0b00011000] .rrB ∧
    isInstr [0b11001011, 0b00011001] .rrC ∧
    isInstr [0b11001011, 0b00011010] .rrD ∧
    isInstr [0b11001011, 0b00011011] .rrE ∧
    isInstr [0b11001011, 0b00011100] .rrH ∧
    isInstr [0b11001011, 0b00011101] .rrL ∧
    isInstr [0b11001011, 0b00011110] .rrIndHl ∧
    isInstr [0b11001011, 0b00011111] .rrA :=
  ⟨rfl, rfl, rfl, rfl, rfl, rfl, rfl, rfl, rfl, rfl, rfl, rfl, rfl, rfl, rfl, rfl⟩

theorem test_decode_cb_row_2x :
    isInstr [0b11001011, 0b00100000] .slaB ∧
    isInstr [0b11001011, 0b00100001] .slaC ∧
    isInstr [0b11001011, 0b00100010] .slaD ∧
    isInstr [0b11001011, 0b00100011] .slaE ∧
    isInstr [0b11001011, 0b00100100] .slaH ∧
    isInstr [0b11001011, 0b00100101] .slaL ∧
    isInstr [0b11001011, 0b00100110] .slaIndHl ∧
    isInstr [0b11001011, 0b00100111] .slaA ∧
    isInstr [0b11001011, 0b00101000] .sraB ∧
    isInstr [0b11001011, 0b00101001] .sraC ∧
    isInstr [0b11001011, 0b00101010] .sraD ∧
    isInstr [0b11001011, 0b00101011] .sraE ∧
    isInstr [0b11001011, 0b00101100] .sraH ∧
    isInstr [0b11001011, 0b00101101] .sraL ∧
    isInstr [0b11001011, 0b00101110] .sraIndHl ∧
    isInstr [0b11001011, 0b00101111] .sraA :=
  ⟨rfl, rfl, rfl, rfl, rfl, rfl, rfl, rfl, rfl, rfl, rfl, rfl, rfl, rfl, rfl, rfl⟩

theorem test_decode_cb_row_3x :
    isInstr [0b11001011, 0b00110000] .swapB ∧
    isInstr [0b11001011, 0b00110001] .swapC ∧
    isInstr [0b11001011, 0b00110010] .swapD ∧
    isInstr [0b11001011, 0b00110011] .swapE ∧
    isInstr [0b11001011, 0b00110100] .swapH ∧
    isInstr [0b11001011, 0b00110101] .swapL ∧
    isInstr [0b11001011, 0b00110110] .swapIndHl ∧
    isInstr [0b11001011, 0b00110111] .swapA ∧
    isInstr [0b11001011, 0b00111000] .srlB ∧
    isInstr [0b11001011, 0b00111001] .srlC ∧
    isInstr [0b11001011, 0b00111010] .srlD ∧
    isInstr [0b11001011, 0b00111011] .srlE ∧
    isInstr [0b11001011, 0b00111100] .srlH ∧
    isInstr [0b11001011, 0b00111101] .srlL ∧
    isInstr [0b11001011, 0b00111110] .srlIndHl ∧
    isInstr [0b11001011, 0b00111111] .srlA :=
  ⟨rfl, rfl, rfl, rfl, rfl, rfl, rfl, rfl, rfl, rfl, rfl, rfl, rfl, rfl, rfl, rfl⟩

theorem test_decode_cb_row_4x :
    isInstr [0b11001011, 0b01000000] .bit0B ∧
    isInstr [0b11001011, 0b01000001] .bit0C ∧
    isInstr [0b11001011, 0b01000010] .bit0D ∧
    isInstr [0b11001011, 0b01000011] .bit0E ∧
    isInstr [0b11001011, 0b01000100] .bit0H ∧
    isInstr [0b11001011, 0b01000101] .bit0L ∧
    isInstr [0b11001011, 0b01000110] .bit0IndHl ∧
    isInstr [0b11001011, 0b01000111] .bit0A ∧
    isInstr [0b11001011, 0b01001000] .bit1B ∧
    isInstr [0b11001011, 0b01001001] .bit1C ∧
    isInstr [0b11001011, 0b01001010] .bit1D ∧
    isInstr [0b11001011, 0b01001011] .bit1E ∧
    isInstr [0b11001011, 0b01001100] .bit1H ∧
    isInstr [0b11001011, 0b01001101] .bit1L ∧
    isInstr [0b11001011, 0b01001110] .bit1IndHl ∧
    isInstr [0b11001011, 0b01001111] .bit1A :=
  ⟨rfl, rfl, rfl, rfl, rfl, rfl, rfl, rfl, rfl, rfl, rfl, rfl, rfl, rfl, rfl, rfl⟩

theorem test_decode_cb_row_5x :
    isInstr [0b11001011, 0b01010000] .bit2B ∧
    isInstr [0b11001011, 0b01010001] .bit2C ∧
    isInstr [0b11001011, 0b01010010] .bit2D ∧
    isInstr [0b11001011, 0b01010011] .bit2E ∧
    isInstr [0b11001011, 0b01010100] .bit2H ∧
    isInstr [0b11001011, 0b01010101] .bit2L ∧
    isInstr [0b11001011, 0b01010110] .bit2IndHl ∧
    isInstr [0b11001011, 0b01010111] .bit2A ∧
    isInstr [0b11001011, 0b01011000] .bit3B ∧
    isInstr [0b11001011, 0b01011001] .bit3C ∧
    isInstr [0b11001011, 0b01011010] .bit3D ∧
    isInstr [0b11001011, 0b01011011] .bit3E ∧
    isInstr [0b11001011, 0b01011100] .bit3H ∧
    isInstr [0b11001011, 0b01011101] .bit3L ∧
    isInstr [0b11001011, 0b01011110] .bit3IndHl ∧
    isInstr [0b11001011, 0b01011111] .bit3A :=
  ⟨rfl, rfl, rfl, rfl, rfl, rfl, rfl, rfl, rfl, rfl, rfl, rfl, rfl, rfl, rfl, rfl⟩

theorem test_decode_cb_row_6x :
    isInstr [0b11001011, 0b01100000] .bit4B ∧
    isInstr [0b11001011, 0b01100001] .bit4C ∧
    isInstr [0b11001011, 0b01100010] .bit4D ∧
    isInstr [0b11001011, 0b01100011] .bit4E ∧
    isInstr [0b11001011, 0b01100100] .bit4H ∧
    isInstr [0b11001011, 0b01100101] .bit4L ∧
    isInstr [0b11001011, 0b01100110] .bit4IndHl ∧
    isInstr [0b11001011, 0b01100111] .bit4A ∧
    isInstr [0b11001011, 0b01101000] .bit5B ∧
    isInstr [0b11001011, 0b01101001] .bit5C ∧
    isInstr [0b11001011, 0b01101010] .bit5D ∧
    isInstr [0b11001011, 0b01101011] .bit5E ∧
    isInstr [0b11001011, 0b01101100] .bit5H ∧
    isInstr [0b11001011, 0b01101101] .bit5L ∧
    isInstr [0b11001011, 0b01101110] .bit5IndHl ∧
    isInstr [0b11001011, 0b01101111] .bit5A :=
  ⟨rfl, rfl, rfl, rfl, rfl, rfl, rfl, rfl, rfl, rfl, rfl, rfl, rfl, rfl, rfl, rfl⟩

theorem test_decode_cb_row_7x :
    isInstr [0b11001011, 0b01110000] .bit6B ∧
    isInstr [0b11001011, 0b01110001] .bit6C ∧
    isInstr [0b11001011, 0b01110010] .bit6D ∧
    isInstr [0b11001011, 0b01110011] .bit6E ∧
    isInstr [0b11001011, 0b01110100] .bit6H ∧
    isInstr [0b11001011, 0b01110101] .bit6L ∧
    isInstr [0b11001011, 0b01110110] .bit6IndHl ∧
    isInstr [0b11001011, 0b01110111] .bit6A ∧
    isInstr [0b11001011, 0b01111000] .bit7B ∧
    isInstr [0b11001011, 0b01111001] .bit7C ∧
    isInstr [0b11001011, 0b01111010] .bit7D ∧
    isInstr [0b11001011, 0b01111011] .bit7E ∧
    isInstr [0b11001011, 0b01111100] .bit7H ∧
    isInstr [0b11001011, 0b01111101] .bit7L ∧
    isInstr [0b11001011, 0b01111110] .bit7IndHl ∧
    isInstr [0b11001011, 0b01111111] .bit7A :=
  ⟨rfl, rfl, rfl, rfl, rfl, rfl, rfl, rfl, rfl, rfl, rfl, rfl, rfl, rfl, rfl, rfl⟩

theorem test_decode_cb_row_8x :
    isInstr [0b11001011, 0b10000000] .res0B ∧
    isInstr [0b11001011, 0b10000001] .res0C ∧
    isInstr [0b11001011, 0b10000010] .res0D ∧
    isInstr [0b11001011, 0b10000011] .res0E ∧
    isInstr [0b11001011, 0b10000100] .res0H ∧
    isInstr [0b11001011, 0b10000101] .res0L ∧
    isInstr [0b11001011, 0b10000110] .res0IndHl ∧
    isInstr [0b11001011, 0b10000111] .res0A ∧
    isInstr [0b11001011, 0b10001000] .res1B ∧
    isInstr [0b11001011, 0b10001001] .res1C ∧
    isInstr [0b11001011, 0b10001010] .res1D ∧
    isInstr [0b11001011, 0b10001011] .res1E ∧
    isInstr [0b11001011, 0b10001100] .res1H ∧
    isInstr [0b11001011, 0b10001101] .res1L ∧
    isInstr [0b11001011, 0b10001110] .res1IndHl ∧
    isInstr [0b11001011, 0b10001111] .res1A :=
  ⟨rfl, rfl, rfl, rfl, rfl, rfl, rfl, rfl, rfl, rfl, rfl, rfl, rfl, rfl, rfl, rfl⟩

theorem test_decode_cb_row_9x :
    isInstr [0b11001011, 0b10010000] .res2B ∧
    isInstr [0b11001011, 0b10010001] .res2C ∧
    isInstr [0b11001011, 0b10010010] .res2D ∧
    isInstr [0b11001011, 0b10010011] .res2E ∧
    isInstr [0b11001011, 0b10010100] .res2H ∧
    isInstr [0b11001011, 0b10010101] .res2L ∧
    isInstr [0b11001011, 0b10010110] .res2IndHl ∧
    isInstr [0b11001011, 0b10010111] .res2A ∧
    isInstr [0b11001011, 0b10011000] .res3B ∧
    isInstr [0b11001011, 0b10011001] .res3C ∧
    isInstr [0b11001011, 0b10011010] .res3D ∧
    isInstr [0b11001011, 0b10011011] .res3E ∧
    isInstr [0b11001011, 0b10011100] .res3H ∧
    isInstr [0b11001011, 0b10011101] .res3L ∧
    isInstr [0b11001011, 0b10011110] .res3IndHl ∧
    isInstr [0b11001011, 0b10011111] .res3A :=
  ⟨rfl, rfl, rfl, rfl, rfl, rfl, rfl, rfl, rfl, rfl, rfl, rfl, rfl, rfl, rfl, rfl⟩

theorem test_decode_cb_row_Ax :
    isInstr [0b11001011, 0b10100000] .res4B ∧
    isInstr [0b11001011, 0b10100001] .res4C ∧
    isInstr [0b11001011, 0b10100010] .res4D ∧
    isInstr [0b11001011, 0b10100011] .res4E ∧
    isInstr [0b11001011, 0b10100100] .res4H ∧
    isInstr [0b11001011, 0b10100101] .res4L ∧
    isInstr [0b11001011, 0b10100110] .res4IndHl ∧
    isInstr [0b11001011, 0b10100111] .res4A ∧
    isInstr [0b11001011, 0b10101000] .res5B ∧
    isInstr [0b11001011, 0b10101001] .res5C ∧
    isInstr [0b11001011, 0b10101010] .res5D ∧
    isInstr [0b11001011, 0b10101011] .res5E ∧
    isInstr [0b11001011, 0b10101100] .res5H ∧
    isInstr [0b11001011, 0b10101101] .res5L ∧
    isInstr [0b11001011, 0b10101110] .res5IndHl ∧
    isInstr [0b11001011, 0b10101111] .res5A :=
  ⟨rfl, rfl, rfl, rfl, rfl, rfl, rfl, rfl, rfl, rfl, rfl, rfl, rfl, rfl, rfl, rfl⟩

theorem test_decode_cb_row_Bx :
    isInstr [0b11001011, 0b10110000] .res6B ∧
    isInstr [0b11001011, 0b10110001] .res6C ∧
    isInstr [0b11001011, 0b10110010] .res6D ∧
    isInstr [0b11001011, 0b10110011] .res6E ∧
    isInstr [0b11001011, 0b10110100] .res6H ∧
    isInstr [0b11001011, 0b10110101] .res6L ∧
    isInstr [0b11001011, 0b10110110] .res6IndHl ∧
    isInstr [0b11001011, 0b10110111] .res6A ∧
    isInstr [0b11001011, 0b10111000] .res7B ∧
    isInstr [0b11001011, 0b10111001] .res7C ∧
    isInstr [0b11001011, 0b10111010] .res7D ∧
    isInstr [0b11001011, 0b10111011] .res7E ∧
    isInstr [0b11001011, 0b10111100] .res7H ∧
    isInstr [0b11001011, 0b10111101] .res7L ∧
    isInstr [0b11001011, 0b10111110] .res7IndHl ∧
    isInstr [0b11001011, 0b10111111] .res7A :=
  ⟨rfl, rfl, rfl, rfl, rfl, rfl, rfl, rfl, rfl, rfl, rfl, rfl, rfl, rfl, rfl, rfl⟩

theorem test_decode_cb_row_Cx :
    isInstr [0b11001011, 0b11000000] .set0B ∧
    isInstr [0b11001011, 0b11000001] .set0C ∧
    isInstr [0b11001011, 0b11000010] .set0D ∧
    isInstr [0b11001011, 0b11000011] .set0E ∧
    isInstr [0b11001011, 0b11000100] .set0H ∧
    isInstr [0b11001011, 0b11000101] .set0L ∧
    isInstr [0b11001011, 0b11000110] .set0IndHl ∧
    isInstr [0b11001011, 0b11000111] .set0A ∧
    isInstr [0b11001011, 0b11001000] .set1B ∧
    isInstr [0b11001011, 0b11001001] .set1C ∧
    isInstr [0b11001011, 0b11001010] .set1D ∧
    isInstr [0b11001011, 0b11001011] .set1E ∧
    isInstr [0b11001011, 0b11001100] .set1H ∧
    isInstr [0b11001011, 0b11001101] .set1L ∧
    isInstr [0b11001011, 0b11001110] .set1IndHl ∧
    isInstr [0b11001011, 0b11001111] .set1A :=
  ⟨rfl, rfl, rfl, rfl, rfl, rfl, rfl, rfl, rfl, rfl, rfl, rfl, rfl, rfl, rfl, rfl⟩

theorem test_decode_cb_row_Dx :
    isInstr [0b11001011, 0b11010000] .set2B ∧
    isInstr [0b11001011, 0b11010001] .set2C ∧
    isInstr [0b11001011, 0b11010010] .set2D ∧
    isInstr [0b11001011, 0b11010011] .set2E ∧
    isInstr [0b11001011, 0b11010100] .set2H ∧
    isInstr [0b11001011, 0b11010101] .set2L ∧
    isInstr [0b11001011, 0b11010110] .set2IndHl ∧
    isInstr [0b11001011, 0b11010111] .set2A ∧
    isInstr [0b11001011, 0b11011000] .set3B ∧
    isInstr [0b11001011, 0b11011001] .set3C ∧
    isInstr [0b11001011, 0b11011010] .set3D ∧
    isInstr [0b11001011, 0b11011011] .set3E ∧
    isInstr [0b11001011, 0b11011100] .set3H ∧
    isInstr [0b11001011, 0b11011101] .set3L ∧
    isInstr [0b11001011, 0b11011110] .set3IndHl ∧
    isInstr [0b11001011, 0b11011111] .set3A :=
  ⟨rfl, rfl, rfl, rfl, rfl, rfl, rfl, rfl, rfl, rfl, rfl, rfl, rfl, rfl, rfl, rfl⟩

theorem test_decode_cb_row_Ex :
    isInstr [0b11001011, 0b11100000] .set4B ∧
    isInstr [0b11001011, 0b11100001] .set4C ∧
    isInstr [0b11001011, 0b11100010] .set4D ∧
    isInstr [0b11001011, 0b11100011] .set4E ∧
    isInstr [0b11001011, 0b11100100] .set4H ∧
    isInstr [0b11001011, 0b11100101] .set4L ∧
    isInstr [0b11001011, 0b11100110] .set4IndHl ∧
    isInstr [0b11001011, 0b11100111] .set4A ∧
    isInstr [0b11001011, 0b11101000] .set5B ∧
    isInstr [0b11001011, 0b11101001] .set5C ∧
    isInstr [0b11001011, 0b11101010] .set5D ∧
    isInstr [0b11001011, 0b11101011] .set5E ∧
    isInstr [0b11001011, 0b11101100] .set5H ∧
    isInstr [0b11001011, 0b11101101] .set5L ∧
    isInstr [0b11001011, 0b11101110] .set5IndHl ∧
    isInstr [0b11001011, 0b11101111] .set5A :=
  ⟨rfl, rfl, rfl, rfl, rfl, rfl, rfl, rfl, rfl, rfl, rfl, rfl, rfl, rfl, rfl, rfl⟩

theorem test_decode_cb_row_Fx :
    isInstr [0b11001011, 0b11110000] .set6B ∧
    isInstr [0b11001011, 0b11110001] .set6C ∧
    isInstr [0b11001011, 0b11110010] .set6D ∧
    isInstr [0b11001011, 0b11110011] .set6E ∧
    isInstr [0b11001011, 0b11110100] .set6H ∧
    isInstr [0b11001011, 0b11110101] .set6L ∧
    isInstr [0b11001011, 0b11110110] .set6IndHl ∧
    isInstr [0b11001011, 0b11110111] .set6A ∧
    isInstr [0b11001011, 0b11111000] .set7B ∧
    isInstr [0b11001011, 0b11111001] .set7C ∧
    isInstr [0b11001011, 0b11111010] .set7D ∧
    isInstr [0b11001011, 0b11111011] .set7E ∧
    isInstr [0b11001011, 0b11111100] .set7H ∧
    isInstr [0b11001011, 0b11111101] .set7L ∧
    isInstr [0b11001011, 0b11111110] .set7IndHl ∧
    isInstr [0b11001011, 0b11111111] .set7A :=
  ⟨rfl, rfl, rfl, rfl, rfl, rfl, rfl, rfl, rfl, rfl, rfl, rfl, rfl, rfl, rfl, rfl⟩

/-! ### Single instructions, from 95_test_vectors.md section 2 -/

/-- The machine after reset with these bytes in the image at 0x0100. -/
def placed (b0 b1 b2 : Byte) : State :=
  placeInstruction b0 b1 b2 State.reset

/-- The state after one CPU step. -/
def ran (s : State) : State :=
  match cpuStep s with
  | .next t => t
  | .fault _ => s
  | .refused _ => s

/-- The state after one iteration. -/
def stepped (s : State) : State :=
  match step s with
  | .next t => t
  | .fault _ => s
  | .refused _ => s

theorem test_V1_LD_A_B :
    let t := ran ((placed 0x78 0x00 0x00) |>.writeOperand .b 0x12)
    t.regs.a = 0x12 ∧ t.ticks = 4 ∧ t.regs.pc = 0x0101 ∧ t.regs.f = 0xB0 := by decide

theorem test_V2_LD_A_HL :
    let t := ran ((placed 0x7E 0x00 0x00) |>.setPair .hl 0xC000 |>.setMem 0xC000 0x5C)
    t.regs.a = 0x5C ∧ t.ticks = 8 ∧ t.regs.pc = 0x0101 ∧ t.regs.f = 0xB0 := by decide

theorem test_V3_LD_HL_0x99 :
    let t := ran ((placed 0x36 0x99 0x00) |>.setPair .hl 0xC010)
    t.mem.read 0xC010 = 0x99 ∧ t.ticks = 12 ∧ t.regs.pc = 0x0102 ∧ t.regs.f = 0xB0 := by decide

theorem test_V4_LD_A_BC :
    let t := ran ((placed 0x0A 0x00 0x00) |>.setPair .bc 0xFF0F |>.setPending 0x01)
    t.regs.a = 0x01 ∧ t.ticks = 8 ∧ t.regs.pc = 0x0101 ∧ t.regs.f = 0xB0 := by decide

theorem test_V5_LD_0xFFFF_A :
    let t := ran ((placed 0xEA 0xFF 0xFF) |>.setA 0x01)
    t.intr.enable = 0x01 ∧ t.ticks = 16 ∧ t.regs.pc = 0x0103 ∧ t.regs.f = 0xB0 := by decide

theorem test_V6_LD_A_0xFFFF :
    let t := ran ((placed 0xFA 0xFF 0xFF) |>.setEnable 0x1F)
    t.regs.a = 0x1F ∧ t.ticks = 16 ∧ t.regs.pc = 0x0103 ∧ t.regs.f = 0xB0 := by decide

theorem test_V8_LDH_0xFF_A :
    let t := ran ((placed 0xE0 0xFF 0x00) |>.setA 0x04)
    t.intr.enable = 0x04 ∧ t.ticks = 12 ∧ t.regs.pc = 0x0102 ∧ t.regs.f = 0xB0 := by decide

theorem test_V9_LD_C_A :
    let t := ran ((placed 0xE2 0x00 0x00) |>.writeOperand .c 0x42 |>.setA 0x10)
    t.ppu.scrollY = 0x10 ∧ t.ticks = 8 ∧ t.regs.pc = 0x0101 ∧ t.regs.f = 0xB0 := by decide

theorem test_V10_LD_HL_A :
    let t := ran ((placed 0x32 0x00 0x00) |>.setPair .hl 0x0000 |>.setA 0x07)
    t.pair .hl = 0xFFFF ∧ t.ticks = 8 ∧ t.regs.pc = 0x0101 ∧ t.regs.f = 0xB0 := by decide

theorem test_V11_LD_HL_A :
    let t := ran ((placed 0x22 0x00 0x00) |>.setPair .hl 0xC000 |>.setA 0x11)
    t.mem.read 0xC000 = 0x11 ∧ t.pair .hl = 0xC001 ∧ t.ticks = 8 ∧ t.regs.pc = 0x0101 ∧ t.regs.f = 0xB0 := by decide

theorem test_V12_LD_0xC000_SP :
    let t := ran ((placed 0x08 0x00 0xC0) |>.setSp 0xFFF8)
    t.mem.read 0xC000 = 0xF8 ∧ t.mem.read 0xC001 = 0xFF ∧ t.ticks = 20 ∧ t.regs.pc = 0x0103 ∧ t.regs.f = 0xB0 := by decide

theorem test_V13_LD_SP_HL :
    let t := ran ((placed 0xF9 0x00 0x00) |>.setPair .hl 0xDFFF)
    t.regs.sp = 0xDFFF ∧ t.ticks = 8 ∧ t.regs.pc = 0x0101 ∧ t.regs.f = 0xB0 := by decide

theorem test_V14_PUSH_AF :
    let t := ran ((placed 0xF5 0x00 0x00) |>.setA 0x12 |>.setF 0xF0)
    t.regs.sp = 0xFFFC ∧ t.mem.read 0xFFFC = 0xF0 ∧ t.mem.read 0xFFFD = 0x12 ∧ t.ticks = 16 ∧ t.regs.pc = 0x0101 ∧ t.regs.f = 0xF0 := by decide

theorem test_V15_POP_AF :
    let t := ran ((placed 0xF1 0x00 0x00) |>.setSp 0xC000 |>.setMem 0xC000 0xFF |>.setMem 0xC001 0x12)
    t.regs.a = 0x12 ∧ t.regs.f = 0xF0 ∧ t.regs.sp = 0xC002 ∧ t.ticks = 12 ∧ t.regs.pc = 0x0101 := by decide

theorem test_V16_POP_BC :
    let t := ran ((placed 0xC1 0x00 0x00) |>.setSp 0xFFFF |>.setEnable 0x3C)
    t.pair .bc = 0x003C ∧ t.regs.sp = 0x0001 ∧ t.ticks = 12 ∧ t.regs.pc = 0x0101 ∧ t.regs.f = 0xB0 := by decide

theorem test_V17_PUSH_BC :
    let t := ran ((placed 0xC5 0x00 0x00) |>.setSp 0x0001 |>.setPair .bc 0xABCD)
    t.regs.sp = 0xFFFF ∧ t.ticks = 16 ∧ t.regs.pc = 0x0101 ∧ t.regs.f = 0xB0 := by decide

theorem test_V20_ADD_A_B :
    let t := ran ((placed 0x80 0x00 0x00) |>.setA 0x3A |>.writeOperand .b 0xC6 |>.setF 0x00)
    t.regs.a = 0x00 ∧ t.regs.f = 0xB0 ∧ t.ticks = 4 ∧ t.regs.pc = 0x0101 := by decide

theorem test_V21_ADD_A_0x01 :
    let t := ran ((placed 0xC6 0x01 0x00) |>.setA 0x0F |>.setF 0x00)
    t.regs.a = 0x10 ∧ t.regs.f = 0x20 ∧ t.ticks = 8 ∧ t.regs.pc = 0x0102 := by decide

theorem test_V22_ADD_A_A :
    let t := ran ((placed 0x87 0x00 0x00) |>.setA 0x80 |>.setF 0x00)
    t.regs.a = 0x00 ∧ t.regs.f = 0x90 ∧ t.ticks = 4 ∧ t.regs.pc = 0x0101 := by decide

theorem test_V23_ADC_A_0x00 :
    let t := ran ((placed 0xCE 0x00 0x00) |>.setA 0xFF |>.setF 0x10)
    t.regs.a = 0x00 ∧ t.regs.f = 0xB0 ∧ t.ticks = 8 ∧ t.regs.pc = 0x0102 := by decide

theorem test_V24_ADC_A_0x0F :
    let t := ran ((placed 0xCE 0x0F 0x00) |>.setA 0xE1 |>.setF 0x10)
    t.regs.a = 0xF1 ∧ t.regs.f = 0x20 ∧ t.ticks = 8 ∧ t.regs.pc = 0x0102 := by decide

theorem test_V25_SUB_B :
    let t := ran ((placed 0x90 0x00 0x00) |>.setA 0x3E |>.writeOperand .b 0x3E |>.setF 0x00)
    t.regs.a = 0x00 ∧ t.regs.f = 0xC0 ∧ t.ticks = 4 ∧ t.regs.pc = 0x0101 := by decide

theorem test_V26_SUB_0x0F :
    let t := ran ((placed 0xD6 0x0F 0x00) |>.setA 0x3E |>.setF 0x00)
    t.regs.a = 0x2F ∧ t.regs.f = 0x60 ∧ t.ticks = 8 ∧ t.regs.pc = 0x0102 := by decide

theorem test_V27_SUB_0x40 :
    let t := ran ((placed 0xD6 0x40 0x00) |>.setA 0x3E |>.setF 0x00)
    t.regs.a = 0xFE ∧ t.regs.f = 0x50 ∧ t.ticks = 8 ∧ t.regs.pc = 0x0102 := by decide

theorem test_V28_SBC_A_0xFF :
    let t := ran ((placed 0xDE 0xFF 0x00) |>.setA 0x00 |>.setF 0x10)
    t.regs.a = 0x00 ∧ t.regs.f = 0xF0 ∧ t.ticks = 8 ∧ t.regs.pc = 0x0102 := by decide

theorem test_V29_SBC_A_0x2A :
    let t := ran ((placed 0xDE 0x2A 0x00) |>.setA 0x3B |>.setF 0x10)
    t.regs.a = 0x10 ∧ t.regs.f = 0x40 ∧ t.ticks = 8 ∧ t.regs.pc = 0x0102 := by decide

theorem test_V30_CP_0x10 :
    let t := ran ((placed 0xFE 0x10 0x00) |>.setA 0x10 |>.setF 0x00)
    t.regs.a = 0x10 ∧ t.regs.f = 0xC0 ∧ t.ticks = 8 ∧ t.regs.pc = 0x0102 := by decide

theorem test_V31_CP_0x0F :
    let t := ran ((placed 0xFE 0x0F 0x00) |>.setA 0x10 |>.setF 0x00)
    t.regs.a = 0x10 ∧ t.regs.f = 0x60 ∧ t.ticks = 8 ∧ t.regs.pc = 0x0102 := by decide

theorem test_V32_INC_A :
    let t := ran ((placed 0x3C 0x00 0x00) |>.setA 0xFF |>.setF 0x10)
    t.regs.a = 0x00 ∧ t.regs.f = 0xB0 ∧ t.ticks = 4 ∧ t.regs.pc = 0x0101 := by decide

theorem test_V33_INC_A :
    let t := ran ((placed 0x3C 0x00 0x00) |>.setA 0x0F |>.setF 0x00)
    t.regs.a = 0x10 ∧ t.regs.f = 0x20 ∧ t.ticks = 4 ∧ t.regs.pc = 0x0101 := by decide

theorem test_V34_DEC_A :
    let t := ran ((placed 0x3D 0x00 0x00) |>.setA 0x01 |>.setF 0x00)
    t.regs.a = 0x00 ∧ t.regs.f = 0xC0 ∧ t.ticks = 4 ∧ t.regs.pc = 0x0101 := by decide

theorem test_V35_DEC_A :
    let t := ran ((placed 0x3D 0x00 0x00) |>.setA 0x00 |>.setF 0x00)
    t.regs.a = 0xFF ∧ t.regs.f = 0x60 ∧ t.ticks = 4 ∧ t.regs.pc = 0x0101 := by decide

theorem test_V36_DEC_A :
    let t := ran ((placed 0x3D 0x00 0x00) |>.setA 0x10 |>.setF 0x10)
    t.regs.a = 0x0F ∧ t.regs.f = 0x70 ∧ t.ticks = 4 ∧ t.regs.pc = 0x0101 := by decide

theorem test_V37_INC_HL :
    let t := ran ((placed 0x34 0x00 0x00) |>.setPair .hl 0xC000 |>.setMem 0xC000 0xFF |>.setF 0x00)
    t.mem.read 0xC000 = 0x00 ∧ t.regs.f = 0xA0 ∧ t.ticks = 12 ∧ t.regs.pc = 0x0101 := by decide

theorem test_V38_DEC_HL :
    let t := ran ((placed 0x35 0x00 0x00) |>.setPair .hl 0xC000 |>.setMem 0xC000 0x00 |>.setF 0x00)
    t.mem.read 0xC000 = 0xFF ∧ t.regs.f = 0x60 ∧ t.ticks = 12 ∧ t.regs.pc = 0x0101 := by decide

theorem test_V43_CPL :
    let t := ran ((placed 0x2F 0x00 0x00) |>.setA 0x35 |>.setF 0x00)
    t.regs.a = 0xCA ∧ t.regs.f = 0x60 ∧ t.ticks = 4 ∧ t.regs.pc = 0x0101 := by decide

theorem test_V44_SCF :
    let t := ran ((placed 0x37 0x00 0x00) |>.setF 0xE0)
    t.regs.f = 0x90 ∧ t.ticks = 4 ∧ t.regs.pc = 0x0101 := by decide

theorem test_V45_CCF :
    let t := ran ((placed 0x3F 0x00 0x00) |>.setF 0x90)
    t.regs.f = 0x80 ∧ t.ticks = 4 ∧ t.regs.pc = 0x0101 := by decide

theorem test_V46_CCF :
    let t := ran ((placed 0x3F 0x00 0x00) |>.setF 0x80)
    t.regs.f = 0x90 ∧ t.ticks = 4 ∧ t.regs.pc = 0x0101 := by decide

theorem test_V50_INC_BC :
    let t := ran ((placed 0x03 0x00 0x00) |>.setPair .bc 0xFFFF |>.setF 0xF0)
    t.pair .bc = 0x0000 ∧ t.regs.f = 0xF0 ∧ t.ticks = 8 ∧ t.regs.pc = 0x0101 := by decide

theorem test_V51_DEC_SP :
    let t := ran ((placed 0x3B 0x00 0x00) |>.setSp 0x0000)
    t.regs.sp = 0xFFFF ∧ t.ticks = 8 ∧ t.regs.pc = 0x0101 ∧ t.regs.f = 0xB0 := by decide

theorem test_V52_ADD_HL_BC :
    let t := ran ((placed 0x09 0x00 0x00) |>.setPair .hl 0x8A23 |>.setPair .bc 0x0605 |>.setF 0x80)
    t.pair .hl = 0x9028 ∧ t.regs.f = 0xA0 ∧ t.ticks = 8 ∧ t.regs.pc = 0x0101 := by decide

theorem test_V53_ADD_HL_HL :
    let t := ran ((placed 0x29 0x00 0x00) |>.setPair .hl 0x8A23 |>.setF 0x00)
    t.pair .hl = 0x1446 ∧ t.regs.f = 0x30 ∧ t.ticks = 8 ∧ t.regs.pc = 0x0101 := by decide

theorem test_V54_ADD_HL_DE :
    let t := ran ((placed 0x19 0x00 0x00) |>.setPair .hl 0xFFFF |>.setPair .de 0x0001 |>.setF 0x00)
    t.pair .hl = 0x0000 ∧ t.regs.f = 0x30 ∧ t.ticks = 8 ∧ t.regs.pc = 0x0101 := by decide

theorem test_V55_ADD_SP_1 :
    let t := ran ((placed 0xE8 0xFF 0x00) |>.setSp 0xFFFE |>.setF 0xC0)
    t.regs.sp = 0xFFFD ∧ t.regs.f = 0x30 ∧ t.ticks = 16 ∧ t.regs.pc = 0x0102 := by decide

theorem test_V56_ADD_SP_2 :
    let t := ran ((placed 0xE8 0x02 0x00) |>.setSp 0xFFF8 |>.setF 0xF0)
    t.regs.sp = 0xFFFA ∧ t.regs.f = 0x00 ∧ t.ticks = 16 ∧ t.regs.pc = 0x0102 := by decide

theorem test_V57_ADD_SP_1 :
    let t := ran ((placed 0xE8 0x01 0x00) |>.setSp 0x00FF |>.setF 0x00)
    t.regs.sp = 0x0100 ∧ t.regs.f = 0x30 ∧ t.ticks = 16 ∧ t.regs.pc = 0x0102 := by decide

theorem test_V58_LD_HL_SP_2 :
    let t := ran ((placed 0xF8 0x02 0x00) |>.setSp 0xFFF8 |>.setF 0xF0)
    t.pair .hl = 0xFFFA ∧ t.regs.sp = 0xFFF8 ∧ t.regs.f = 0x00 ∧ t.ticks = 12 ∧ t.regs.pc = 0x0102 := by decide

theorem test_V59_LD_HL_SP_128 :
    let t := ran ((placed 0xF8 0x80 0x00) |>.setSp 0x0000 |>.setF 0x00)
    t.pair .hl = 0xFF80 ∧ t.regs.f = 0x00 ∧ t.ticks = 12 ∧ t.regs.pc = 0x0102 := by decide

theorem test_V60_RLCA :
    let t := ran ((placed 0x07 0x00 0x00) |>.setA 0x85 |>.setF 0x80)
    t.regs.a = 0x0B ∧ t.regs.f = 0x10 ∧ t.ticks = 4 ∧ t.regs.pc = 0x0101 := by decide

theorem test_V61_RRCA :
    let t := ran ((placed 0x0F 0x00 0x00) |>.setA 0x01 |>.setF 0x00)
    t.regs.a = 0x80 ∧ t.regs.f = 0x10 ∧ t.ticks = 4 ∧ t.regs.pc = 0x0101 := by decide

theorem test_V62_RLA :
    let t := ran ((placed 0x17 0x00 0x00) |>.setA 0x80 |>.setF 0x00)
    t.regs.a = 0x00 ∧ t.regs.f = 0x10 ∧ t.ticks = 4 ∧ t.regs.pc = 0x0101 := by decide

theorem test_V63_RRA :
    let t := ran ((placed 0x1F 0x00 0x00) |>.setA 0x01 |>.setF 0x10)
    t.regs.a = 0x80 ∧ t.regs.f = 0x10 ∧ t.ticks = 4 ∧ t.regs.pc = 0x0101 := by decide

theorem test_V64_RLC_B :
    let t := ran ((placed 0xCB 0x00 0x00) |>.writeOperand .b 0x85 |>.setF 0x00)
    t.regs.b = 0x0B ∧ t.regs.f = 0x10 ∧ t.ticks = 8 ∧ t.regs.pc = 0x0102 := by decide

theorem test_V65_RLC_B :
    let t := ran ((placed 0xCB 0x00 0x00) |>.writeOperand .b 0x00 |>.setF 0x10)
    t.regs.b = 0x00 ∧ t.regs.f = 0x80 ∧ t.ticks = 8 ∧ t.regs.pc = 0x0102 := by decide

theorem test_V66_RRC_C :
    let t := ran ((placed 0xCB 0x09 0x00) |>.writeOperand .c 0x01 |>.setF 0x00)
    t.regs.c = 0x80 ∧ t.regs.f = 0x10 ∧ t.ticks = 8 ∧ t.regs.pc = 0x0102 := by decide

theorem test_V67_RL_D :
    let t := ran ((placed 0xCB 0x12 0x00) |>.writeOperand .d 0x80 |>.setF 0x00)
    t.regs.d = 0x00 ∧ t.regs.f = 0x90 ∧ t.ticks = 8 ∧ t.regs.pc = 0x0102 := by decide

theorem test_V68_RR_E :
    let t := ran ((placed 0xCB 0x1B 0x00) |>.writeOperand .e 0x01 |>.setF 0x10)
    t.regs.e = 0x80 ∧ t.regs.f = 0x10 ∧ t.ticks = 8 ∧ t.regs.pc = 0x0102 := by decide

theorem test_V69_SLA_H :
    let t := ran ((placed 0xCB 0x24 0x00) |>.writeOperand .h 0x80 |>.setF 0x00)
    t.regs.h = 0x00 ∧ t.regs.f = 0x90 ∧ t.ticks = 8 ∧ t.regs.pc = 0x0102 := by decide

theorem test_V70_SRA_L :
    let t := ran ((placed 0xCB 0x2D 0x00) |>.writeOperand .l 0x8A |>.setF 0x00)
    t.regs.l = 0xC5 ∧ t.regs.f = 0x00 ∧ t.ticks = 8 ∧ t.regs.pc = 0x0102 := by decide

theorem test_V71_SWAP_A :
    let t := ran ((placed 0xCB 0x37 0x00) |>.setA 0xF0 |>.setF 0x70)
    t.regs.a = 0x0F ∧ t.regs.f = 0x00 ∧ t.ticks = 8 ∧ t.regs.pc = 0x0102 := by decide

theorem test_V72_SWAP_A :
    let t := ran ((placed 0xCB 0x37 0x00) |>.setA 0x00 |>.setF 0x70)
    t.regs.a = 0x00 ∧ t.regs.f = 0x80 ∧ t.ticks = 8 ∧ t.regs.pc = 0x0102 := by decide

theorem test_V73_SRL_A :
    let t := ran ((placed 0xCB 0x3F 0x00) |>.setA 0x01 |>.setF 0x00)
    t.regs.a = 0x00 ∧ t.regs.f = 0x90 ∧ t.ticks = 8 ∧ t.regs.pc = 0x0102 := by decide

theorem test_V74_BIT_7_H :
    let t := ran ((placed 0xCB 0x7C 0x00) |>.writeOperand .h 0x80 |>.setF 0x10)
    t.regs.f = 0x30 ∧ t.ticks = 8 ∧ t.regs.pc = 0x0102 := by decide

theorem test_V75_BIT_0_A :
    let t := ran ((placed 0xCB 0x47 0x00) |>.setA 0xFE |>.setF 0x00)
    t.regs.f = 0xA0 ∧ t.ticks = 8 ∧ t.regs.pc = 0x0102 := by decide

theorem test_V76_BIT_0_HL :
    let t := ran ((placed 0xCB 0x46 0x00) |>.setPair .hl 0xC000 |>.setMem 0xC000 0x01 |>.setF 0x10)
    t.regs.f = 0x30 ∧ t.ticks = 12 ∧ t.regs.pc = 0x0102 := by decide

theorem test_V77_RES_7_A :
    let t := ran ((placed 0xCB 0xBF 0x00) |>.setA 0xFF |>.setF 0xF0)
    t.regs.a = 0x7F ∧ t.regs.f = 0xF0 ∧ t.ticks = 8 ∧ t.regs.pc = 0x0102 := by decide

theorem test_V78_SET_3_HL :
    let t := ran ((placed 0xCB 0xDE 0x00) |>.setPair .hl 0xC000 |>.setMem 0xC000 0x00 |>.setF 0x00)
    t.mem.read 0xC000 = 0x08 ∧ t.regs.f = 0x00 ∧ t.ticks = 16 ∧ t.regs.pc = 0x0102 := by decide

theorem test_V79_RLC_HL :
    let t := ran ((placed 0xCB 0x06 0x00) |>.setPair .hl 0xC000 |>.setMem 0xC000 0x80 |>.setF 0x00)
    t.mem.read 0xC000 = 0x01 ∧ t.regs.f = 0x10 ∧ t.ticks = 16 ∧ t.regs.pc = 0x0102 := by decide

theorem test_V80_SRL_HL :
    let t := ran ((placed 0xCB 0x3E 0x00) |>.setPair .hl 0xC000 |>.setMem 0xC000 0x01 |>.setF 0x00)
    t.mem.read 0xC000 = 0x00 ∧ t.regs.f = 0x90 ∧ t.ticks = 16 ∧ t.regs.pc = 0x0102 := by decide

theorem test_V90_JP_0x0150 :
    let t := ran (placed 0xC3 0x50 0x01)
    t.regs.pc = 0x0150 ∧ t.ticks = 16 ∧ t.regs.f = 0xB0 := by decide

theorem test_V91_JP_Z_0x0200 :
    let t := ran ((placed 0xCA 0x00 0x02) |>.setF 0x80)
    t.regs.pc = 0x0200 ∧ t.ticks = 16 ∧ t.regs.f = 0x80 := by decide

theorem test_V92_JP_NZ_0x0200 :
    let t := ran ((placed 0xC2 0x00 0x02) |>.setF 0x80)
    t.regs.pc = 0x0103 ∧ t.ticks = 12 ∧ t.regs.f = 0x80 := by decide

theorem test_V93_JP_HL :
    let t := ran ((placed 0xE9 0x00 0x00) |>.setPair .hl 0xC000)
    t.regs.pc = 0xC000 ∧ t.ticks = 4 ∧ t.regs.f = 0xB0 := by decide

theorem test_V94_JR_128 :
    let t := ran (placed 0x18 0x80 0x00)
    t.regs.pc = 0x0082 ∧ t.ticks = 12 ∧ t.regs.f = 0xB0 := by decide

theorem test_V96_JR_NZ_5 :
    let t := ran ((placed 0x20 0x05 0x00) |>.setF 0x80)
    t.regs.pc = 0x0102 ∧ t.ticks = 8 ∧ t.regs.f = 0x80 := by decide

theorem test_V97_JR_C_5 :
    let t := ran ((placed 0x38 0x05 0x00) |>.setF 0x10)
    t.regs.pc = 0x0107 ∧ t.ticks = 12 ∧ t.regs.f = 0x10 := by decide

theorem test_V99_CALL_NZ_0x0200 :
    let t := ran ((placed 0xC4 0x00 0x02) |>.setF 0x00)
    t.regs.sp = 0xFFFC ∧ t.mem.read 0xFFFC = 0x03 ∧ t.mem.read 0xFFFD = 0x01 ∧ t.regs.pc = 0x0200 ∧ t.ticks = 24 ∧ t.regs.f = 0x00 := by decide

theorem test_V100_CALL_C_0x0200 :
    let t := ran ((placed 0xDC 0x00 0x02) |>.setF 0x10)
    t.regs.sp = 0xFFFC ∧ t.regs.pc = 0x0200 ∧ t.mem.read t.regs.sp.toNat = 0x03 ∧ t.mem.read (t.regs.sp.toNat + 1) = 0x01 ∧ t.ticks = 24 ∧ t.regs.f = 0x10 := by decide

theorem test_V101_CALL_C_0x0200 :
    let t := ran ((placed 0xDC 0x00 0x02) |>.setF 0x00)
    t.regs.pc = 0x0103 ∧ t.regs.sp = 0xFFFE ∧ t.ticks = 12 ∧ t.regs.f = 0x00 := by decide

theorem test_V102_RET :
    let t := ran ((placed 0xC9 0x00 0x00) |>.setSp 0xFFFC |>.setMem 0xFFFC 0x08 |>.setMem 0xFFFD 0x01)
    t.regs.pc = 0x0108 ∧ t.regs.sp = 0xFFFE ∧ t.ticks = 16 ∧ t.regs.f = 0xB0 := by decide

theorem test_V103_RET_NC :
    let t := ran ((placed 0xD0 0x00 0x00) |>.setF 0x10)
    t.regs.pc = 0x0101 ∧ t.regs.sp = 0xFFFE ∧ t.ticks = 8 ∧ t.regs.f = 0x10 := by decide

theorem test_V104_RET_Z :
    let t := ran ((placed 0xC8 0x00 0x00) |>.setF 0x80 |>.setSp 0xFFFC |>.setMem 0xFFFC 0x08 |>.setMem 0xFFFD 0x01)
    t.regs.pc = 0x0108 ∧ t.regs.sp = 0xFFFE ∧ t.ticks = 20 ∧ t.regs.f = 0x80 := by decide

theorem test_V105_RETI :
    let t := ran ((placed 0xD9 0x00 0x00) |>.setMaster false |>.setSp 0xFFFC |>.setMem 0xFFFC 0x08 |>.setMem 0xFFFD 0x01)
    t.intr.master = true ∧ t.regs.pc = 0x0108 ∧ t.regs.sp = 0xFFFE ∧ t.ticks = 16 ∧ t.regs.f = 0xB0 := by decide

theorem test_V106_RST_0x38 :
    let t := ran (placed 0xFF 0x00 0x00)
    t.regs.sp = 0xFFFC ∧ t.regs.pc = 0x0038 ∧ t.mem.read t.regs.sp.toNat = 0x01 ∧ t.mem.read (t.regs.sp.toNat + 1) = 0x01 ∧ t.ticks = 16 ∧ t.regs.f = 0xB0 := by decide

theorem test_V110_NOP :
    let t := ran (placed 0x00 0x00 0x00)
    t.regs.pc = 0x0101 ∧ t.ticks = 4 ∧ t.regs.f = 0xB0 := by decide

theorem test_V111_HALT :
    let t := ran (placed 0x76 0x00 0x00)
    t.regs.pc = 0x0101 ∧ t.stopped = false ∧ t.ticks = 4 ∧ t.regs.f = 0xB0 := by decide

theorem test_V112_STOP :
    let t := ran (placed 0x10 0x00 0x00)
    t.stopped = true ∧ t.regs.pc = 0x0102 ∧ t.ticks = 4 ∧ t.regs.f = 0xB0 := by decide

theorem test_V114_DI :
    let t := ran ((placed 0xF3 0x00 0x00) |>.setMaster true)
    t.intr.master = false ∧ t.ticks = 4 ∧ t.regs.pc = 0x0101 ∧ t.regs.f = 0xB0 := by decide

theorem test_V115_EI :
    let t := ran ((placed 0xFB 0x00 0x00) |>.setMaster false)
    t.intr.master = true ∧ t.ticks = 4 ∧ t.regs.pc = 0x0101 ∧ t.regs.f = 0xB0 := by decide
theorem test_V7_LDH_A_0x44 : (ran (placed 0xF0 0x44 0x00)).regs.a = Config.lySentinel := by rfl

theorem test_V18_read_past_the_image :
    let t := ran ({ placed 0xFA 0x00 0x02 with romLen := 384 })
    t.regs.a = 0x00 ∧ t.diags = [.outOfRange 0x0200] := by decide

theorem test_V40_DAA_after_ADD :
    let t := ran ((placed 0x27 0x00 0x00).setA 0x9A |>.setF 0x00)
    t.regs.a = 0x00 ∧ t.regs.f = 0x90 := by decide

theorem test_V41_DAA_after_SUB :
    let t := ran ((placed 0x27 0x00 0x00).setA 0xFF |>.setF 0x70)
    t.regs.a = 0x99 ∧ t.regs.f = 0x50 := by decide

theorem test_V81_prefix_operand_from_the_next_region :
    let t := ran ((((placed 0x00 0x00 0x00).setMem 0x7FFF 0xCB).setMem 0x8000 0x37).setA 0xF0 |>.setPc 0x7FFF)
    t.regs.a = 0x0F ∧ t.regs.f = 0x00 ∧ t.regs.pc = 0x8001 ∧ t.ticks = 8 := by decide

theorem test_V95_JR_to_itself :
    (ran (((placed 0x00 0x00 0x00).setMem 0x010B 0x18).setMem 0x010C 0xFE |>.setPc 0x010B)).regs.pc = 0x010B := by decide

theorem test_V98_pc_wraps : (ran ((placed 0x00 0x00 0x00).setPc 0xFFFF)).regs.pc = 0x0000 := by decide

/-! ### Exceptions, interrupts, pixel timing -/

theorem test_V116_illegal_opcode_faults :
    step (placed 0xDD 0x00 0x00) = .fault (.illegalOpcode
      { code := 1, addr := 0x0100, opcode := 0xDD, width := 0, regs := State.reset.regs }) := by rfl

theorem test_V116_illegal_opcode_costs_nothing :
    let t := ran (placed 0xDD 0x00 0x00)
    t.regs = State.reset.regs ∧ t.ticks = 0 ∧ t.intr = State.reset.intr := by decide

theorem test_V118_reset_leaves_the_fault :
    let t := (ran (placed 0xDD 0x00 0x00)).resetAction
    t.run = .running ∧ t.regs = State.reset.regs ∧ t.mem = [(0x0100, 0xDD)] := by decide

/-- An unimplemented opcode rewinds over the operand it read (30_encoding.md R133). -/
theorem test_unimplemented_opcode_faults :
    let s := placed 0x3E 0x42 0x00
    step { s with params := { s.params with implemented := s.params.implemented &&& ~~~(1#256 <<< 0x3E) } } =
      .fault (.illegalOpcode { code := 1, addr := 0x0100, opcode := 0x3E, width := 1, regs := State.reset.regs }) := by rfl

theorem test_iterate_before_a_load_is_refused : step State.reset = .refused .noCartridge := by rfl

/-- `pc` 0x0123 with these interrupt registers. -/
def requested (master : Bool) (enable pending : Byte) : State :=
  { State.reset.setPc 0x0123 with intr := { master := master, enable := enable, pending := pending } }

theorem test_V120_dispatch_vblank :
    let t := intStep (requested true 0x05 0x05)
    t.regs.pc = 0x0040 ∧ t.intr = { master := false, enable := 0x05, pending := 0x04 } ∧ t.regs.sp = 0xFFFC ∧
      t.mem = [(0xFFFC, 0x23), (0xFFFD, 0x01)] ∧ t.ticks = 12 := by decide

theorem test_V121_master_off : intStep (requested false 0x05 0x05) = requested false 0x05 0x05 := by rfl

theorem test_V122_V123_lowest_source :
    (intStep (requested true 0x10 0x18)).regs.pc = 0x0060 ∧ (intStep (requested true 0x10 0x18)).intr.pending = 0x08 ∧
    (intStep (requested true 0x1E 0x1F)).regs.pc = 0x0048 ∧ (intStep (requested true 0x1E 0x1F)).intr.pending = 0x1D := by
  decide

theorem test_V124_high_bits_never_dispatch : intStep (requested true 0xFF 0xE0) = requested true 0xFF 0xE0 := by rfl

theorem test_V125_dispatch_keeps_stopped :
    let t := intStep ((requested true 0x02 0x02).setStopped true)
    t.regs.pc = 0x0048 ∧ t.intr.pending = 0x00 ∧ t.stopped = true := by decide

/-- A display unit in this state, `delta` cycles later. -/
def timed (mode : PpuMode) (line tick delta : Nat) (enable pending : Byte) : State :=
  { State.reset with
    ticks := delta
    ppu := { State.reset.ppu with mode := mode, scanline := line, tick := tick }
    intr := { State.reset.intr with enable := enable, pending := pending } }

/-- Mode, line, tick and `pending` after one pixel-timing step. -/
def timing (s : State) : PpuMode × Nat × Nat × Byte :=
  ((ppuStep s).ppu.mode, (ppuStep s).ppu.scanline, (ppuStep s).ppu.tick, (ppuStep s).intr.pending)

theorem test_V130_to_V134_visible_line :
    timing (timed .hblank 0 0 204 0x00 0x00) = (.oam, 1, 0, 0x00) ∧ timing (timed .oam 5 0 79 0x00 0x00) = (.oam, 5, 79, 0x00) ∧
    timing (timed .oam 5 0 80 0x00 0x00) = (.vram, 5, 0, 0x00) ∧ timing (timed .oam 5 10 300 0x00 0x00) = (.vram, 5, 230, 0x00) ∧
    timing (timed .vram 5 0 172 0x00 0x00) = (.hblank, 5, 0, 0x00) := by decide

theorem test_V135_to_V137_vblank_request :
    timing (timed .hblank 143 0 204 0x01 0x00) = (.vblank, 144, 0, 0x01) ∧
    timing (timed .hblank 143 0 204 0x00 0x00) = (.vblank, 144, 0, 0x00) ∧
    timing (timed .hblank 143 100 110 0x01 0x04) = (.vblank, 144, 6, 0x05) := by decide

theorem test_V138_to_V140_vblank_lines :
    timing (timed .vblank 144 0 500 0x00 0x00) = (.vblank, 145, 44, 0x00) ∧
    timing (timed .vblank 152 455 1 0x00 0x00) = (.vblank, 153, 0, 0x00) ∧
    timing (timed .vblank 153 0 456 0x00 0x00) = (.oam, 0, 0, 0x00) := by decide

/-! ### The bus, from section 2.9 -/

theorem test_V150_rom_write_ignored : State.reset.writeByte 0x2000 0x01 = State.reset := by rfl

theorem test_V152_no_echo_above_DDFF :
    let s := State.reset.writeByte 0xDE00 0x55
    s.mem = [(0xDE00, 0x55)] ∧ s.readByte 0xFE00 = 0x00 := by decide

theorem test_V153_echo_write : (State.reset.writeByte 0xFDFF 0x77).mem = [(0xDDFF, 0x77)] := by decide

theorem test_V154_joypad_unwired : State.reset.readByte 0xFF00 = 0xFF := by decide

theorem test_V155_each_divider_read_is_a_draw :
    State.reset.readByte 0xFF04 = Config.divDraw 0 ∧ (State.reset.afterRead 0xFF04).readByte 0xFF04 = Config.divDraw 1 :=
  ⟨rfl, rfl⟩

theorem test_V156_dma_copies_160_bytes :
    let s := (State.reset.setMem 0xC000 0x11).setMem 0xC09F 0x22 |>.setMem 0xC0A0 0x33
    let t := s.writeByte 0xFF46 0xC0
    t.readByte 0xFE00 = 0x11 ∧ t.readByte 0xFE9F = 0x22 ∧ t.readByte 0xFEA0 = 0x00 ∧ t.readByte 0xFF46 = 0xC0 := by
  decide +kernel

theorem test_V158_word_read_wraps :
    ({ (State.reset.setEnable 0x12).setMem 0x0000 0x34 with romLen := 384 } : State).readShort 0xFFFF = 0x3412 := by decide

theorem test_V159_word_write : (State.reset.writeShort 0xC000 0xBEEF).mem = [(0xC000, 0xEF), (0xC001, 0xBE)] := by decide

theorem test_V160_scanline_reads_the_sentinel : (State.reset.writeByte 0xFF44 0x10).readByte 0xFF44 = Config.lySentinel := by
  rfl

theorem test_memory_form : (State.reset.writeByte 0xC000 0x01).writeByte 0xC000 0x00 = State.reset := by rfl

/-! ### The host's interface -/

theorem test_withFetchWord_runs_it :
    let t := stepped (State.reset.withFetchWord 16 0x423E)
    t.regs.a = 0x42 ∧ t.regs.pc = 0x0102 := by decide

theorem test_withFetchWord_wide : (stepped (State.reset.withFetchWord 24 0xC00021)).pair .hl = 0xC000 := by decide

theorem test_decodeTableWord :
    decodeTableWord 16 0x423E = some (.ldAN 0x42) ∧ decodeTableWord 8 0x3E = some (.ldAN 0x00) ∧
    decodeTableWord 16 0x37CB = some .swapA ∧ decodeTableWord 8 0xDD = some .illegalDD := ⟨rfl, rfl, rfl, rfl⟩

/-! ### Default costs (70_reset_and_hazards.md R431–R433) -/

theorem test_default_ticks :
    defaultParams.ticksOf 0x08 = 20 ∧ defaultParams.ticksOf 0x36 = 12 ∧ defaultParams.ticksOf 0xCD = 24 ∧
    defaultParams.ticksOf 0xFD = 0 ∧ defaultParams.cbTicksOf 0x06 = 12 ∧ defaultParams.cbTicksOf 0x46 = 8 ∧
    defaultParams.cbTicksOf 0xFF = 4 := by decide

theorem test_defaults_trap_only_the_illegal :
    defaultParams.traps 0xD3 = true ∧ defaultParams.traps 0xFD = true ∧ defaultParams.traps 0x00 = false ∧
    defaultParams.traps 0xFF = false := by decide

/-! ### Witnesses: every hypothesis of a statement is met by a state and operands written here -/

theorem witness_DecodeOfEncodeIsTheInstruction :
    (Instr.ldHlNn 0xFFFF).wellFormed = true ∧ (Instr.nop).wellFormed = true ∧ (Instr.set7A).wellFormed = true := by decide

theorem witness_EncodeOfDecodeIsTheBytes : decode [0xCB, 0xFF, 0x00] = .ok (.set7A, [0x00]) := by rfl

theorem witness_PrimaryFieldsSelectOperands :
    (Operand8.indHl ≠ .indHl ∨ Operand8.a ≠ .indHl) ∧ (Operand8.b ≠ .indHl ∨ Operand8.indHl ≠ .indHl) ∧
    (AluOp.add, (0 : Byte)) ∈ [(AluOp.add, (0 : Byte)), (.adc, 1), (.sub, 2), (.sbc, 3), (.and, 4), (.xor, 5), (.or, 6), (.cp, 7)] ∧
    (AluOp.cp, (7 : Byte)) ∈ [(AluOp.add, (0 : Byte)), (.adc, 1), (.sub, 2), (.sbc, 3), (.and, 4), (.xor, 5), (.or, 6), (.cp, 7)] := by
  decide

theorem witness_ReadsFollowTheAddressMap_rom :
    (0x7FFF : Word).toNat < 0x8000 ∧ (0x7FFF : Word).toNat < (placed 0x00 0x00 0x00).romLen ∧
    State.reset.romLen ≤ (0x0000 : Word).toNat ∧ (0x0000 : Word).toNat < 0x8000 := by decide

theorem witness_ReadsFollowTheAddressMap_ram :
    0x8000 ≤ (0x8000 : Word).toNat ∧ (0xDFFF : Word).toNat < 0xE000 ∧ 0xE000 ≤ (0xE000 : Word).toNat ∧
    (0xFDFF : Word).toNat < 0xFE00 ∧ 0xFE00 ≤ (0xFE00 : Word).toNat ∧ (0xFEFF : Word).toNat < 0xFF00 ∧
    0xFF80 ≤ (0xFF80 : Word).toNat ∧ (0xFFFE : Word).toNat < 0xFFFF := by decide

theorem witness_ReadsFollowTheAddressMap_io :
    State.reset.joypadWired = false ∧ (State.reset.wireJoypad true).joypadWired = true ∧ 0xFF00 ≤ (0xFF01 : Word).toNat ∧ (0xFF7F : Word).toNat < 0xFF80 ∧
    (0xFF01 : Word) ∉ ([0xFF00, 0xFF04, 0xFF0F, 0xFF40, 0xFF42, 0xFF43, 0xFF44, 0xFF46] : List Word) ∧
    (0xFF7F : Word) ∉ ([0xFF00, 0xFF04, 0xFF0F, 0xFF40, 0xFF42, 0xFF43, 0xFF44, 0xFF46] : List Word) := by decide

theorem witness_ReadsChangeNoState :
    (0xFF05 : Word) ≠ 0xFF00 ∧ (0xFF05 : Word) ≠ 0xFF04 ∧ State.reset.romLen ≤ (0x7FFF : Word).toNat ∧
    (0x7FFF : Word).toNat < 0x8000 ∧ (0x0000 : Word).toNat < (placed 0x00 0x00 0x00).romLen ∧
    0x8000 ≤ (0x8000 : Word).toNat := by decide

theorem plain_8000 : PlainStorage 0x8000 := by unfold PlainStorage; decide
theorem plain_8001 : PlainStorage 0x8001 := by unfold PlainStorage; decide
theorem plain_FFFD : PlainStorage 0xFFFD := by unfold PlainStorage; decide
theorem plain_FFFE : PlainStorage 0xFFFE := by unfold PlainStorage; decide
theorem plain_FFFC : PlainStorage 0xFFFC := by unfold PlainStorage; decide

theorem witness_PlainStorageReadsBack :
    Memory.wf State.reset.mem ∧ PlainStorage 0x8000 ∧ PlainStorage 0xFFFE ∧ sameByte 0xC000 0xE000 ∧ sameByte 0xFDFF 0xDDFF :=
  ⟨by decide, plain_8000, plain_FFFE, by unfold sameByte; decide, by unfold sameByte; decide⟩

theorem witness_StoresChangeOnlyTheirByte :
    (0x7FFF : Word).toNat < 0x8000 ∧ Outside 0xC000 0xC001 ∧ Outside 0xFF46 0xFEA0 ∧ Outside 0x0000 0x0000 := by
  unfold Outside sameByte; decide

theorem witness_DmaCopiesAPage :
    Memory.wf State.reset.mem ∧ 159 < 160 ∧ BitVec.ofNat 16 (256 * (0xFF : Byte).toNat + 159) ≠ (0xFF04 : Word) ∧
    BitVec.ofNat 16 (256 * (0x00 : Byte).toNat + 0) ≠ (0xFF04 : Word) := by decide

theorem witness_WordAccessIsTwoByteAccesses :
    Memory.wf State.reset.mem ∧ PlainStorage 0x8000 ∧ PlainStorage (0x8000 + 1) ∧ PlainStorage 0xFFFD ∧ PlainStorage (0xFFFD + 1) :=
  ⟨by decide, plain_8000, plain_8001, plain_FFFD, plain_FFFE⟩

theorem witness_PushThenPopReturnsTheValue :
    Memory.wf State.reset.mem ∧ PlainStorage (State.reset.regs.sp - 2) ∧ PlainStorage (State.reset.regs.sp - 1) :=
  ⟨by decide, plain_FFFC, plain_FFFD⟩

theorem witness_StepRunsTheDecodedInstruction :
    ∃ u i, Runs (placed 0x3E 0x42 0x00) ∧
      (placed 0x3E 0x42 0x00).params.traps (placed 0x3E 0x42 0x00).fetchedOpcode = false ∧
      decode (placed 0x3E 0x42 0x00).fetchedBytes = .ok (i, []) ∧
      exec i (placed 0x3E 0x42 0x00).atHandler = .next u ∧ u.run = .running :=
  ⟨_, .ldAN 0x42, ⟨rfl, rfl, rfl⟩, by decide, rfl, rfl, by decide⟩

theorem witness_FetchReadsTheBytesAtPc :
    operandWidth ((placed 0x00 0x00 0x00).readByte (placed 0x00 0x00 0x00).regs.pc) = 0 ∧
    operandWidth ((placed 0xCB 0x00 0x00).readByte (placed 0xCB 0x00 0x00).regs.pc) = 1 ∧
    operandWidth ((placed 0xC3 0x00 0x00).readByte (placed 0xC3 0x00 0x00).regs.pc) = 2 := by decide

theorem witness_StoppedStepRunsOnlyTheOtherAgents :
    let s := (placed 0x00 0x00 0x00).setStopped true
    s.cartridge = .loaded ∧ s.run = .running ∧ s.stopped = true := by decide

theorem witness_TrapFaultsWithEveryRegister :
    (let s := placed 0xD3 0x00 0x00
     Runs s ∧ s.params.traps (s.readByte s.regs.pc) = true) ∧
    (let t := ran (placed 0xD3 0x00 0x00)
     t.cartridge = .loaded ∧ t.run = .faulted { code := 1, addr := 0x0100, opcode := 0xD3, width := 0, regs := State.reset.regs }) :=
  ⟨⟨⟨rfl, rfl, rfl⟩, by decide⟩, by decide, by decide⟩

theorem witness_LoadRomSucceedsOrTheCoreNeverSteps :
    (384 ≤ (List.replicate 384 (0x00 : Byte)).length ∧ (List.replicate 32768 (0x00 : Byte)).length ≤ 32768) ∧
    (List.replicate 383 (0x00 : Byte)).length < 384 ∧ 32768 < (List.replicate 32769 (0x00 : Byte)).length := by
  simp only [List.length_replicate]; decide

theorem witness_PcAdvancesByOnePlusWidth :
    let s := placed 0x3E 0x42 0x00
    ¬ WritesPc (.ldAN 0x42) ∧ s.stopped = false ∧ s.params.traps s.fetchedOpcode = false ∧
      decode s.fetchedBytes = .ok (.ldAN 0x42, []) ∧ cpuStep s = .next (ran s) := by
  refine ⟨?_, by decide, by decide, rfl, rfl⟩
  rintro (⟨_, h⟩ | ⟨_, cc, h⟩ | ⟨_, h⟩ | ⟨_, cc, h⟩ | h | ⟨_, h⟩ | ⟨_, cc, h⟩ | h | ⟨cc, h⟩ | h | ⟨k, h⟩ | ⟨k, h⟩) <;>
    first
    | (cases h; done)
    | (cases cc <;> cases h; done)
    | (fin_cases k <;> cases h)

theorem witness_CostIsTheTableEntry :
    (let s := placed 0xCB 0x06 0x00
     ¬ HasVariableCost .rlcIndHl ∧ s.stopped = false ∧ s.params.traps s.fetchedOpcode = false ∧
      decode s.fetchedBytes = .ok (.rlcIndHl, []) ∧ cpuStep s = .next (ran s)) ∧
    (let s := placed 0xD3 0x00 0x00
     s.stopped = false ∧ s.params.traps s.fetchedOpcode = true ∧ cpuStep s = .next (ran s)) := by
  refine ⟨⟨?_, by decide, by decide, rfl, rfl⟩, by decide, by decide, rfl⟩
  rintro (⟨_, cc, h⟩ | ⟨_, cc, h⟩ | ⟨_, cc, h⟩ | ⟨cc, h⟩) <;> cases cc <;> cases h

theorem witness_DispatchTakesTheLowestActiveSource :
    ((requested false 0x1F 0x1F).intr.master = false ∧ active (requested true 0x00 0x1F) = 0x00) ∧
    (let s := requested true 0x10 0x18
     s.intr.master = true ∧ active s ≠ 0x00 ∧ (active s).getLsbD 4 = true ∧ ∀ j : Nat, j < 4 → (active s).getLsbD j = false) ∧
    (let s := requested true 0x05 0x05
     (active s).getLsbD 0 = true ∧ ∀ j : Nat, j < 0 → (active s).getLsbD j = false) := by
  refine ⟨by decide, ⟨by decide, by decide, by decide, by decide⟩, by decide, by decide⟩

theorem witness_RetiUndoesADispatch :
    let s := requested true 0x05 0x05
    Memory.wf s.mem ∧ PlainStorage (s.regs.sp - 2) ∧ PlainStorage (s.regs.sp - 1) :=
  ⟨by decide, plain_FFFC, plain_FFFD⟩

/-- The mode and the cycles a clause of `PixelTimingCrossesOneThreshold` asks about. -/
def total (s : State) : Nat := s.ppu.tick + (s.ticks - s.ppu.lastTicks)

theorem witness_PixelTimingCrossesOneThreshold_met :
    80 ≤ total (timed .oam 5 0 80 0x00 0x00) ∧ 172 ≤ total (timed .vram 5 0 172 0x00 0x00) ∧
    204 ≤ total (timed .hblank 142 0 204 0x00 0x00) ∧ (timed .hblank 142 0 204 0x00 0x00).ppu.scanline + 1 ≠ 144 ∧
    204 ≤ total (timed .hblank 143 0 204 0x00 0x00) ∧ (timed .hblank 143 0 204 0x00 0x00).ppu.scanline + 1 = 144 ∧
    456 ≤ total (timed .vblank 152 0 456 0x00 0x00) ∧ (timed .vblank 152 0 456 0x00 0x00).ppu.scanline + 1 ≤ 153 ∧
    456 ≤ total (timed .vblank 153 0 456 0x00 0x00) ∧ 153 < (timed .vblank 153 0 456 0x00 0x00).ppu.scanline + 1 := by decide

theorem witness_PixelTimingCrossesOneThreshold_below :
    total (timed .oam 5 0 79 0x00 0x00) < 80 ∧ total (timed .vram 5 0 171 0x00 0x00) < 172 ∧
    total (timed .hblank 5 0 203 0x00 0x00) < 204 ∧ total (timed .vblank 150 0 455 0x00 0x00) < 456 := by decide

theorem good_placed_ei : (placed 0xFB 0x00 0x00).Good :=
  ⟨⟨by decide, by decide⟩, by unfold State.FlagsGood; decide, show 0 ≤ 143 by decide,
    by unfold State.TicksGood; decide, by unfold State.RomGood; decide⟩

theorem witness_StepKeepsGood : (placed 0xFB 0x00 0x00).Good ∧ step (placed 0xFB 0x00 0x00) = .next (stepped (placed 0xFB 0x00 0x00)) :=
  ⟨good_placed_ei, rfl⟩

theorem witness_HostActionsKeepGood : (placed 0xFB 0x00 0x00).Good := good_placed_ei

theorem witness_StepsNeverChangeTheRom :
    let s := placed 0x77 0x00 0x00
    step s = .next (stepped s) := by rfl

theorem witness_HighRamLastByteIsOutOfReach :
    let s := placed 0x77 0x00 0x00
    step s = .next (stepped s) := by rfl

/-- hram's last byte is no byte of the enable register (20_memory.md R93, R94). -/
theorem test_hram_last_byte_is_hidden :
    let s := State.reset.setMem 0xFFFF 0x5A
    s.readByte 0xFFFF = 0x00 ∧ (s.writeByte 0xFFFF 0x1F).mem.read 0xFFFF = 0x5A ∧ s.resetAction.mem = [] ∧
      homeAddress 0 0xFFFF = true ∧ homeAddress 0 0x10000 = false := by decide

/-- The ends of a run (60_exceptions.md R395), (b) before (c) (log 19). -/
theorem test_run_ends :
    ((placed 0x18 0xFE 0x00).runEnd = some .selfLoop ∧ ((placed 0x18 0xFE 0x00).setStopped true).runEnd = some .quiescent) ∧
    (placed 0x18 0xFD 0x00).runEnd = none := by decide

theorem witness_OnlyStopSetsTheLatch :
    (let s := placed 0x10 0x00 0x00
     step s = .next (stepped s) ∧ s.stopped = false ∧ (stepped s).stopped = true) ∧
    (let s := (placed 0x00 0x00 0x00).setStopped true
     step s = .next (stepped s) ∧ s.stopped = true) :=
  ⟨⟨rfl, by decide, by decide⟩, rfl, by decide⟩

theorem witness_MasterChangesOnlyByItsRules_set :
    let s := (placed 0xD9 0x00 0x00).setMaster false
    step s = .next (stepped s) ∧ s.intr.master = false ∧ (stepped s).intr.master = true := ⟨rfl, by decide, by decide⟩

theorem witness_MasterChangesOnlyByItsRules_clear :
    (let s := placed 0xF3 0x00 0x00
     step s = .next (stepped s) ∧ s.intr.master = true ∧ (stepped s).intr.master = false) ∧
    (let s := ((placed 0x00 0x00 0x00).setEnable 0x10).setPending 0x10
     step s = .next (stepped s) ∧ s.intr.master = true ∧ (stepped s).intr.master = false) :=
  ⟨⟨rfl, by decide, by decide⟩, rfl, by decide, by decide⟩

theorem witness_ByteLoadForms : (Operand8.b ≠ .indHl ∨ Operand8.b ≠ .indHl) ∧ (Operand8.indHl ≠ .indHl ∨ Operand8.a ≠ .indHl) := by
  decide

theorem witness_OnlyStores_compared :
    ((0xFF05 : Word) ≠ 0xFF00 ∧ (0xFF05 : Word) ≠ 0xFF04) ∧ (State.reset.setA 0x00).draws = State.reset.draws := by decide

theorem witness_DaaMakesArithmeticDecimal : 99 < 100 ∧ 99 < 100 ∧ (State.reset.setA 0x99).regs.a = bcd 99 := by decide

theorem witness_AccumulatorRotates :
    (ShiftOp.rr, Instr.rra, (0x1F : Byte)) ∈
      [(ShiftOp.rlc, Instr.rlca, (0x07 : Byte)), (.rrc, .rrca, 0x0F), (.rl, .rla, 0x17), (.rr, .rra, 0x1F)] := by simp

theorem witness_RotateForms : ShiftOp.rlc ∈ [ShiftOp.rlc, .rrc, .rl, .rr] ∧ ShiftOp.rr ∈ [ShiftOp.rlc, .rrc, .rl, .rr] := by decide

theorem witness_ShiftForms :
    ShiftOp.sla ∈ [ShiftOp.sla, .sra, .swap, .srl] ∧ ShiftOp.srl ∈ [ShiftOp.sla, .sra, .swap, .srl] := by decide

theorem witness_IllegalOpcodesTakeTheTrap :
    ([0xD3, 0xDB, 0xDD, 0xE3, 0xE4, 0xEB, 0xEC, 0xED, 0xF4, 0xFC, 0xFD] : List Byte)[(0 : Fin 11).val]? = some 0xD3 ∧
    ([0xD3, 0xDB, 0xDD, 0xE3, 0xE4, 0xEB, 0xEC, 0xED, 0xF4, 0xFC, 0xFD] : List Byte)[(10 : Fin 11).val]? = some 0xFD := by decide

end Sys2Proof.Tests
end

section
/-! High RAM's last byte (20_memory.md R93, R94): the decoder selects no home address 0xFFFF, so no read sees that byte and
no bus access, hence no step, changes it. -/

namespace Sys2Proof.Machine

/-- A ROM target is below the RAM homes. -/
theorem busTarget_rom_lt {a : Word} {i : Nat} (h : busTarget a = .rom i) : i < 0x8000 := by
  have := busTarget_cases a
  grind

/-- A read depends on the store only at the home addresses the decoder can select, and 0xFFFF is none of them. -/
theorem readByte_setMem_hramLast (s : State) (v : Byte) (a : Word) :
    (s.setMem 0xFFFF v).readByte a = s.readByte a := by
  unfold State.readByte
  cases ht : busTarget a with
  | rom i =>
    have hi := busTarget_rom_lt ht
    simp [State.setMem, Memory.read_write_ne s.mem (show i ≠ 0xFFFF by omega)]
  | ram k =>
    have hk := busTarget_ram_home ht
    exact Memory.read_write_ne s.mem (by omega) v
  | _ => rfl

/-- The pixel-timing step reaches no store. -/
@[simp] theorem ppuStep_mem (s : State) : (ppuStep s).mem = s.mem := by
  rw [ppuStep_frame]

@[simp] theorem ppuStep_romLen (s : State) : (ppuStep s).romLen = s.romLen := by
  rw [ppuStep_frame]

/-- What every bus access keeps of the stores, a whole step keeps: through the instruction, the pixel-timing step and the
interrupt step in turn. -/
theorem storesKept_step {s t : State} (h : step s = .next t) : StoresKept s t := by
  obtain ⟨-, -, u, hu, -, rfl⟩ := step_next h
  have hcpu : StoresKept s u := (kept_cpuStep hu).stores
  have hppu : StoresKept u (ppuStep u) := .of_eq (ppuStep_mem u) (ppuStep_romLen u)
  exact (hcpu.trans hppu).trans (kept_intStep _).stores

/-- Settles O60: reads by the ranges of the decoder, steps by what every step keeps of the stores. -/
theorem highRamLastByteIsOutOfReach : Obligations.HighRamLastByteIsOutOfReach := by
  intro s t v a
  exact ⟨readByte_setMem_hramLast s v a, fun h => (storesKept_step h).hramLast⟩

end Sys2Proof.Machine
end

section
/-! The pairs (10_state.md R31, R32): a word as its two bytes, and each pair's write in the statement's own arithmetic. -/

namespace Sys2Proof.Machine

open Sys2Proof.Claims

theorem hiByte_eq_ofNat (v : Word) : hiByte v = BitVec.ofNat 8 (v.toNat / 256) := by
  apply BitVec.eq_of_toNat_eq
  simp [hiByte, Nat.shiftRight_eq_div_pow]

theorem loByte_eq_ofNat (v : Word) : loByte v = BitVec.ofNat 8 v.toNat := by
  apply BitVec.eq_of_toNat_eq
  simp [loByte]

/-- Clearing the low nibble, in natural-number arithmetic (10_state.md R33). -/
theorem toNat_and_high : ∀ x : Byte, (x &&& 0xF0).toNat = 16 * (x.toNat / 16) := by
  decide

theorem pair_toNat (s : State) (p : Pair) : (s.pair p).toNat = pairValue s p := by
  cases p with
  | sp => rfl
  | _ => exact toNat_wordOfBytes _ _

theorem setPair_eq (s : State) (p : Pair) (v : Word) :
    s.setPair p v = { s with regs := setPairTo s.regs p v.toNat } := by
  cases p with
  | sp => simp [State.setPair, State.setSp, setPairTo]
  | _ => simp only [State.setPair, setPairTo, hiByte_eq_ofNat, loByte_eq_ofNat]

theorem setPair_pair (s : State) (p : Pair) (v : Word) : (s.setPair p v).pair p = v := by
  cases p with
  | sp => rfl
  | _ => exact wordOfBytes_lo_hi v

theorem setStackPair_af_eq (s : State) (v : Word) :
    s.setStackPair .af v =
      { s with regs := setStackPairTo s.regs .af (BitVec.ofNat 8 (v.toNat / 256)) (BitVec.ofNat 8 v.toNat) } := by
  rw [← hiByte_eq_ofNat, ← loByte_eq_ofNat]
  rfl

/-- The pair AF after a write to `f`, its low nibble dropped (10_state.md R33). -/
theorem setF_stackPair_af (s : State) (x : Byte) :
    ((s.setF x).stackPair .af).toNat = 256 * s.regs.a.toNat + 16 * (x.toNat / 16) := by
  rw [← toNat_and_high]
  exact toNat_wordOfBytes _ _

/-- Settles O7: a pair is the word of its two registers, so writing a half replaces that byte of the word. -/
theorem pairsAreViewsOfTheirHalves : Obligations.PairsAreViewsOfTheirHalves := by
  intro s v x p
  exact ⟨pair_toNat s p, setPair_eq s p v, setPair_pair s p v,
    pair_toNat (s.writeOperand .b x) .bc, pair_toNat (s.writeOperand .c x) .bc,
    pair_toNat (s.writeOperand .d x) .de, pair_toNat (s.writeOperand .e x) .de,
    pair_toNat (s.writeOperand .h x) .hl, pair_toNat (s.writeOperand .l x) .hl,
    toNat_wordOfBytes _ _, setStackPair_af_eq s v, toNat_wordOfBytes _ _, setF_stackPair_af s x⟩

end Sys2Proof.Machine
end

section
/-! The invariant (10_state.md R33, R46, 60_exceptions.md R380): what an instruction keeps carries it over the CPU step and
the interrupt step; the pixel-timing step moves the line within the range of the next mode. -/

namespace Sys2Proof.Machine

@[simp] theorem ppuStep_regs (s : State) : (ppuStep s).regs = s.regs := by
  rw [ppuStep_frame]

@[simp] theorem ppuStep_stopped (s : State) : (ppuStep s).stopped = s.stopped := by
  rw [ppuStep_frame]

@[simp] theorem ppuStep_ticks (s : State) : (ppuStep s).ticks = s.ticks := by
  rw [ppuStep_frame]

@[simp] theorem ppuStep_cartridge (s : State) : (ppuStep s).cartridge = s.cartridge := by
  rw [ppuStep_frame]

@[simp] theorem ppuStep_lastTicks (s : State) : (ppuStep s).ppu.lastTicks = s.ticks := by
  rw [ppuStep_frame]

/-- The invariant reads only what no instruction touches, the clock, which never goes back, and the stores and flags, which
every instruction keeps good. -/
theorem InstrKept.good {s t : State} (h : InstrKept s t) (g : s.Good) : t.Good where
  memory := h.stores.good g.memory
  flags := h.flags g.flags
  scanline := by
    have hs := g.scanline
    unfold State.ScanlineGood at hs ⊢
    rwa [h.mode, h.scanline]
  ticks := by
    have hlast : t.ppu.lastTicks = s.ppu.lastTicks := h.lastTicks
    exact (hlast.trans_le g.ticks).trans h.ticks
  rom := by
    unfold State.RomGood
    rw [h.cartridge, h.stores.romLen]
    exact g.rom

/-- Leaving a mode puts the line in the range of the next mode: V-blank begins at 144 and ends after 153
(60_exceptions.md R383, R384). -/
theorem leaveMode_scanlineGood {s : State} (h : s.ScanlineGood) : (leaveMode s).ScanlineGood := by
  unfold State.ScanlineGood at h ⊢
  simp only [leaveMode]
  cases hm : s.ppu.mode <;> simp only [hm] at h
  case oam => exact h
  case vram => exact h
  case hblank =>
    by_cases hl : s.ppu.scanline + 1 = 144
    · simp [nextLine, hl]
    · simp only [nextLine, if_neg hl]
      omega
  case vblank =>
    by_cases hl : s.ppu.scanline + 1 > 153
    · simp [nextLine, hl]
    · simp only [nextLine, if_neg hl]
      omega

theorem ppuStep_scanlineGood {s : State} (h : s.ScanlineGood) : (ppuStep s).ScanlineGood := by
  rcases ppuStep_cases s with ⟨-, hp⟩ | ⟨-, hp⟩
  · rw [hp]
    exact h
  · rw [hp]
    exact leaveMode_scanlineGood (s := accrueTicks s) h

theorem ppuStep_good {s : State} (g : s.Good) : (ppuStep s).Good where
  memory := by simpa [State.MemoryGood] using g.memory
  flags := by simpa [State.FlagsGood] using g.flags
  scanline := ppuStep_scanlineGood g.scanline
  ticks := by simp [State.TicksGood]
  rom := by simpa [State.RomGood] using g.rom

/-- Settles O30: the CPU step, the pixel-timing step and the interrupt step each keep the invariant. -/
theorem stepKeepsGood : Obligations.StepKeepsGood := by
  intro s t hs h
  obtain ⟨-, -, u, hu, -, rfl⟩ := step_next h
  have hcpu : u.Good := (kept_cpuStep hu).good hs
  exact (kept_intStep _).good (ppuStep_good hcpu)

/-- Settles O9: nothing is stored or loaded yet, `f` is 0xB0, and the line and the clock are 0 in H-blank. -/
theorem resetStateIsGood : Obligations.ResetStateIsGood where
  memory := ⟨Memory.wf_nil, fun _ hc => absurd hc List.not_mem_nil⟩
  flags := show (0xB0 : Byte) &&& 0x0F = 0x00 by decide
  scanline := Nat.zero_le 143
  ticks := Nat.le_refl 0
  rom := fun h => absurd h (by decide)

end Sys2Proof.Machine
end

section
/-! The opcode selects the instruction (30_encoding.md R121, R126): what the decoder accepts has an encoding that begins with
the first byte decoded. -/

namespace Sys2Proof

/-- The instruction an entry makes of operand bytes given as one word: none, the low one, or both (30_encoding.md R122). -/
def OpcodeEntry.instr (w : Word) : OpcodeEntry → Instr
  | .implied i => i
  | .byte mk => mk (loByte w)
  | .word mk => mk w

/-- What the decoder accepts is an instruction of its first byte's entry. -/
theorem decode_cons_entry {op : Byte} {bytes rest : List Byte} {i : Instr}
    (h : decode (op :: bytes) = .ok (i, rest)) : ∃ w, i = (opcodeEntry op).instr w := by
  simp only [decode] at h
  split at h
  next j r he =>
    cases h
    exact ⟨0, by rw [he]; rfl⟩
  next mk n r he =>
    cases h
    exact ⟨wordOfBytes n 0x00, by rw [he, OpcodeEntry.instr, loByte_wordOfBytes]⟩
  next mk lo hi r he =>
    cases h
    exact ⟨wordOfBytes lo hi, by rw [he]; rfl⟩
  next => cases h

theorem encode_cbInstr_head : ∀ n : Byte, (encode (cbInstr n)).headD 0x00 = 0xCB := by
  decide

/-- The encodings of an entry's instructions begin with its opcode (30_encoding.md R126). -/
theorem opcodeEntry_instr_head (op : Byte) (w : Word) :
    (encode ((opcodeEntry op).instr w)).headD 0x00 = op := by
  obtain ⟨k, hk, rfl⟩ : ∃ k < 256, op = BitVec.ofNat 8 k := ⟨op.toNat, op.isLt, by simp⟩
  rcases Nat.lt_trichotomy k 0xCB with hlt | rfl | hgt
  · interval_cases k <;> rfl
  · exact encode_cbInstr_head (loByte w)
  · interval_cases k <;> rfl

/-- The first byte decoded is the first byte of the instruction's encoding. -/
theorem decode_cons_head {op : Byte} {bytes rest : List Byte} {i : Instr}
    (h : decode (op :: bytes) = .ok (i, rest)) : (encode i).headD 0x00 = op := by
  obtain ⟨w, rfl⟩ := decode_cons_entry h
  exact opcodeEntry_instr_head op w

end Sys2Proof
end

section
/-! The stopped latch (10_state.md R38): STOP's operation alone writes it, and its encoding begins with 0x10. -/

namespace Sys2Proof.Machine

theorem fetchedBytes_cons (s : State) : ∃ bytes, s.fetchedBytes = s.fetchedOpcode :: bytes := by
  rw [State.fetchedBytes, State.fetchedLength, Nat.add_comm]
  exact ⟨_, rfl⟩

/-- The instruction a fetch decodes to is one of the fetched opcode. -/
theorem decode_fetchedBytes_head {s : State} {i : Instr} {rest : List Byte}
    (h : decode s.fetchedBytes = .ok (i, rest)) : (encode i).headD 0x00 = s.fetchedOpcode := by
  obtain ⟨bytes, hb⟩ := fetchedBytes_cons s
  exact decode_cons_head (hb ▸ h)

theorem encode_head_of_stop {i : Instr} (h : actionOf i = .stop) : (encode i).headD 0x00 = 0x10 := by
  cases i with
  | stop n => rfl
  | _ => cases h

@[simp] theorem atHandler_stopped (s : State) : s.atHandler.stopped = s.stopped := by
  simp [State.atHandler]

@[simp] theorem intStep_stopped (s : State) : (intStep s).stopped = s.stopped := by
  rcases intStep_cases s with ⟨h, -⟩ | ⟨i, -, -, h⟩
  · rw [h]
  · simp [h, dispatchInterrupt]

@[simp] theorem takeIllegalOpcode_stopped (op : Byte) (w : Nat) (s : State) :
    (takeIllegalOpcode op w s).stopped = s.stopped := rfl

/-- A CPU step leaves the latch, or sets it with the opcode of STOP. -/
theorem cpuStep_stopped {s t : State} (h : cpuStep s = .next t) :
    t.stopped = s.stopped ∨ (t.stopped = true ∧ s.fetchedOpcode = 0x10) := by
  rcases cpuStep_next h with ⟨-, rfl⟩ | ⟨-, -, rfl⟩ | ⟨-, -, i, rest, hd, rfl⟩
  · exact .inl rfl
  · exact .inl (by simp)
  · by_cases hi : actionOf i = .stop
    · have hop : s.fetchedOpcode = 0x10 := by
        rw [← decode_fetchedBytes_head hd, encode_head_of_stop hi]
      exact .inr ⟨by rw [hi]; rfl, hop⟩
    · exact .inl (by simp [run_stopped hi])

/-- Settles O33: the CPU step by its instruction's operation; the two other agents leave the latch. -/
theorem onlyStopSetsTheLatch : Obligations.OnlyStopSetsTheLatch := by
  intro s t h
  obtain ⟨-, -, u, hu, -, rfl⟩ := step_next h
  rw [intStep_stopped, ppuStep_stopped]
  rcases cpuStep_stopped hu with hsame | ⟨hset, hop⟩
  · refine ⟨fun hs => hsame.trans hs, fun hs ht => ?_⟩
    rw [hsame, hs] at ht
    cases ht
  · exact ⟨fun _ => hset, fun _ _ => hop⟩

end Sys2Proof.Machine
end

section
/-! The address decoder (20_memory.md R72, R78): the target of each range, and two addresses of one storage byte as two
addresses of one target. -/

namespace Sys2Proof.Machine

open Sys2Proof.Claims

/-- The lowest address at which the decoder selects a target. -/
def BusTarget.address : BusTarget → Nat
  | .rom i => i
  | .ram k => k
  | .joypad => 0xFF00
  | .divider => 0xFF04
  | .pending => 0xFF0F
  | .control => 0xFF40
  | .scrollY => 0xFF42
  | .scrollX => 0xFF43
  | .scanline => 0xFF44
  | .dma => 0xFF46
  | .io i => 0xFF00 + i
  | .enable => 0xFFFF

/-- Every address is the lowest one of its target, but for the echo, 0x2000 above it (R78). -/
theorem busTarget_address (a : Word) :
    (busTarget a).address = if 0xE000 ≤ a.toNat ∧ a.toNat < 0xFE00 then a.toNat - 0x2000 else a.toNat := by
  rcases busTarget_cases a with ⟨h, ht⟩ | ⟨h, h', ht⟩ | ⟨h, h', ht⟩ | ⟨h, h', ht⟩ | ⟨h, ht⟩ | ⟨h, ht⟩ | ⟨h, ht⟩ | ⟨h, ht⟩ |
    ⟨h, ht⟩ | ⟨h, ht⟩ | ⟨h, ht⟩ | ⟨h, ht⟩ | ⟨h, h', -, -, -, -, -, -, -, ht⟩ | ⟨h, h', ht⟩ | ⟨h, ht⟩ <;>
    simp only [ht, BusTarget.address, Fin.ofNat] <;> split <;> omega

theorem busTarget_ram {a : Word}
    (h : (0x8000 ≤ a.toNat ∧ a.toNat < 0xE000) ∨ (0xFE00 ≤ a.toNat ∧ a.toNat < 0xFF00) ∨
      (0xFF80 ≤ a.toNat ∧ a.toNat < 0xFFFF)) : busTarget a = .ram a.toNat := by
  have hmap := busTarget_cases a
  by_contra hne
  simp only [hne, and_false, false_or] at hmap
  omega

theorem busTarget_echo {a : Word} (h : 0xE000 ≤ a.toNat ∧ a.toNat < 0xFE00) :
    busTarget a = .ram (a.toNat - 0x2000) := by
  have hmap := busTarget_cases a
  by_contra hne
  simp only [hne, and_false, false_or] at hmap
  omega

theorem busTarget_io {a : Word} (h : 0xFF00 ≤ a.toNat ∧ a.toNat < 0xFF80)
    (hne : a ∉ ([0xFF00, 0xFF04, 0xFF0F, 0xFF40, 0xFF42, 0xFF43, 0xFF44, 0xFF46] : List Word)) :
    busTarget a = .io (Fin.ofNat 256 (a.toNat - 0xFF00)) := by
  simp only [List.mem_cons, List.not_mem_nil, or_false, not_or, ← BitVec.toNat_inj, BitVec.reduceToNat] at hne
  have hmap := busTarget_cases a
  by_contra hio
  simp only [hio, and_false, false_or] at hmap
  omega

/-- The I/O bytes behind FF00, FF04, FF44 and FF46 are no generic ones. -/
theorem busTarget_ne_io (b : Word) {i : Fin 256} (hi : i ∈ ([0x00, 0x04, 0x44, 0x46] : List (Fin 256))) :
    busTarget b ≠ .io i := by
  intro h
  obtain ⟨-, h00, h04, h44, h46⟩ := busTarget_io_index h
  simp only [List.mem_cons, List.not_mem_nil, or_false] at hi
  rcases hi with rfl | rfl | rfl | rfl
  · exact h00 rfl
  · exact h04 rfl
  · exact h44 rfl
  · exact h46 rfl

/-- Above the echo an address is the one its target has. -/
theorem toNat_of_busTarget {a : Word} {t : BusTarget} (h : busTarget a = t) (ht : 0xFE00 ≤ t.address) :
    a.toNat = t.address := by
  have haddr := busTarget_address a
  rw [h] at haddr
  split at haddr <;> omega

theorem toNat_of_busTarget_rom {a : Word} {i : Nat} (h : busTarget a = .rom i) : a.toNat = i := by
  have hi := busTarget_rom_lt h
  have haddr : i = _ := h ▸ busTarget_address a
  split at haddr <;> omega

/-- Addresses of one storage byte, in natural-number arithmetic. -/
theorem sameByte_iff {a b : Word} :
    sameByte a b ↔ a.toNat = b.toNat ∨ (0xC000 ≤ a.toNat ∧ a.toNat < 0xDE00 ∧ b.toNat = a.toNat + 0x2000) ∨
      (0xC000 ≤ b.toNat ∧ b.toNat < 0xDE00 ∧ a.toNat = b.toNat + 0x2000) := by
  have toNat_echo {c : Word} (h : c.toNat < 0xDE00) : (c + 0x2000).toNat = c.toNat + 0x2000 :=
    BitVec.toNat_add_of_lt (by simp; omega)
  unfold sameByte
  refine or_congr BitVec.toNat_inj.symm (or_congr ?_ ?_) <;>
  · refine and_congr_right fun _ => and_congr_right fun h => ?_
    rw [← BitVec.toNat_inj, toNat_echo h]

/-- Two addresses are of one storage byte exactly when the decoder selects the same target for both. -/
theorem busTarget_eq_iff {a b : Word} : busTarget a = busTarget b ↔ sameByte a b := by
  rw [sameByte_iff]
  constructor
  · intro h
    have haddr := congrArg BusTarget.address h
    rw [busTarget_address, busTarget_address] at haddr
    split_ifs at haddr <;> omega
  · rintro (h | ⟨h1, h2, hb⟩ | ⟨h1, h2, ha⟩)
    · rw [BitVec.eq_of_toNat_eq h]
    · rw [busTarget_ram (by omega), busTarget_echo (by omega), hb, Nat.add_sub_cancel]
    · rw [busTarget_ram (a := b) (by omega), busTarget_echo (by omega), ha, Nat.add_sub_cancel]

/-- A byte of plain storage is a RAM byte or a generic I/O byte (R75–R79, R92, R93). -/
theorem plainStorage_target {a : Word} (h : PlainStorage a) :
    (∃ k, busTarget a = .ram k) ∨ ∃ i, busTarget a = .io i := by
  simp only [PlainStorage, ne_eq, ← BitVec.toNat_inj, BitVec.reduceToNat] at h
  have haddr := busTarget_address a
  cases ht : busTarget a with
  | ram k => exact .inl ⟨k, rfl⟩
  | io i => exact .inr ⟨i, rfl⟩
  | rom i =>
    have hi := busTarget_rom_lt ht
    simp only [ht, BusTarget.address] at haddr
    split at haddr <;> omega
  | _ =>
    simp only [ht, BusTarget.address] at haddr
    split at haddr <;> omega

end Sys2Proof.Machine
end

section
/-! Reads of the bus (20_memory.md R72–R95, R104): what a read returns by range, and that it consumes at most a free value or
a diagnostic. -/

namespace Sys2Proof.Machine

open Sys2Proof.Claims

theorem readByte_ram {s : State} {a : Word} {k : Nat} (h : busTarget a = .ram k) : s.readByte a = s.mem.read k := by
  rw [State.readByte, h]

theorem readByte_io {s : State} {a : Word} {i : Fin 256} (h : busTarget a = .io i) : s.readByte a = s.io[i] := by
  rw [State.readByte, h]

theorem readByte_rom {s : State} {a : Word} (h : a.toNat < 0x8000) (hlen : a.toNat < s.romLen) :
    s.readByte a = s.mem.read a.toNat := by
  rw [State.readByte, busTarget_rom h]
  exact if_pos hlen

theorem readByte_rom_beyond {s : State} {a : Word} (h : a.toNat < 0x8000) (hlen : s.romLen ≤ a.toNat) :
    s.readByte a = 0x00 := by
  rw [State.readByte, busTarget_rom h]
  exact if_neg (Nat.not_lt.2 hlen)

theorem readByte_joypad (s : State) :
    s.readByte 0xFF00 = if s.joypadWired then Config.joypad s.draws s.io[0x00] else 0xFF := rfl

theorem readByte_divider (s : State) : s.readByte 0xFF04 = Config.divDraw s.draws := rfl

theorem readByte_dma (s : State) : s.readByte 0xFF46 = s.io[0x46] := rfl

theorem afterRead_joypad (s : State) : s.afterRead 0xFF00 = if s.joypadWired then s.addDraw else s := rfl

theorem afterRead_divider (s : State) : s.afterRead 0xFF04 = s.addDraw := rfl

theorem afterRead_rom_beyond {s : State} {a : Word} (h : a.toNat < 0x8000) (hlen : s.romLen ≤ a.toNat) :
    s.afterRead a = s.addDiag (.outOfRange a) := by
  rw [State.afterRead, busTarget_rom h]
  exact if_neg (Nat.not_lt.2 hlen)

/-- Only the two free reads and a read past the image leave a trace. -/
theorem afterRead_eq_self {s : State} {a : Word} (h0 : a ≠ 0xFF00) (h4 : a ≠ 0xFF04)
    (hrom : a.toNat < s.romLen ∨ 0x8000 ≤ a.toNat) : s.afterRead a = s := by
  unfold State.afterRead
  cases ht : busTarget a with
  | rom i =>
    have hi := busTarget_rom_lt ht
    have ha := toNat_of_busTarget_rom ht
    exact if_pos (by omega)
  | joypad => exact absurd (BitVec.eq_of_toNat_eq (toNat_of_busTarget ht (by decide))) h0
  | divider => exact absurd (BitVec.eq_of_toNat_eq (toNat_of_busTarget ht (by decide))) h4
  | _ => rfl

theorem afterRead_frame (s : State) (a : Word) :
    s.afterRead a = { s with draws := (s.afterRead a).draws, diags := (s.afterRead a).diags } := by
  rcases afterRead_cases s a with h | h | h <;> rw [h] <;> rfl

theorem afterRead_draws {s : State} {a : Word} (h0 : a ≠ 0xFF00) (h4 : a ≠ 0xFF04) :
    (s.afterRead a).draws = s.draws := by
  by_cases hrom : a.toNat < s.romLen ∨ 0x8000 ≤ a.toNat
  · rw [afterRead_eq_self h0 h4 hrom]
  · rw [afterRead_rom_beyond (by omega) (by omega), State.addDiag_draws]

theorem afterRead_diags {s : State} {a : Word} (hrom : a.toNat < s.romLen ∨ 0x8000 ≤ a.toNat) :
    (s.afterRead a).diags = s.diags := by
  by_cases h0 : a = 0xFF00
  · rw [h0, afterRead_joypad]
    split <;> rfl
  by_cases h4 : a = 0xFF04
  · rw [h4, afterRead_divider, State.addDraw_diags]
  rw [afterRead_eq_self h0 h4 hrom]

/-- A read sees the stores only at its own home byte. -/
theorem readByte_withMem {s : State} {m : Memory} {b : Word}
    (hm : ∀ k, busTarget b = .rom k ∨ busTarget b = .ram k → m.read k = s.mem.read k) :
    { s with mem := m }.readByte b = s.readByte b := by
  unfold State.readByte
  cases hb : busTarget b with
  | rom i => simp only [hm i (.inl hb)]
  | ram k => exact hm k (.inr hb)
  | _ => rfl

/-- A read sees neither the other stored bytes nor the diagnostics, and the count of free values only at FF00 and FF04. -/
theorem readByte_frame {s : State} {m : Memory} {d : Nat} {ds : List Diag} {b : Word}
    (hm : ∀ k, busTarget b = .rom k ∨ busTarget b = .ram k → m.read k = s.mem.read k)
    (hd : (b ≠ 0xFF00 ∧ b ≠ 0xFF04) ∨ d = s.draws) :
    { s with mem := m, draws := d, diags := ds }.readByte b = s.readByte b := by
  simp only [ne_eq, ← BitVec.toNat_inj, BitVec.reduceToNat] at hd
  calc { s with mem := m, draws := d, diags := ds }.readByte b
      = { s with mem := m }.readByte b := by refine readByte_congr ?_ ?_ ?_ ?_ ?_ ?_ ?_ hd <;> rfl
    _ = s.readByte b := readByte_withMem hm

/-- A read sees no trace of an earlier one, but for the free values it consumed. -/
theorem readByte_afterRead {s : State} {a b : Word}
    (hb : (b ≠ 0xFF00 ∧ b ≠ 0xFF04) ∨ (s.afterRead a).draws = s.draws) : (s.afterRead a).readByte b = s.readByte b := by
  rw [afterRead_frame]
  exact readByte_frame (fun _ _ => rfl) hb

/-- Settles O10: each range of the map by the target the decoder selects there. -/
theorem readsFollowTheAddressMap : Obligations.ReadsFollowTheAddressMap := by
  intro s a
  refine ⟨readByte_rom, fun h hlen => ⟨readByte_rom_beyond h hlen, by rw [afterRead_rom_beyond h hlen]; rfl⟩,
    fun h h' => readByte_ram (busTarget_ram (.inl ⟨h, h'⟩)), fun h h' => readByte_ram (busTarget_echo ⟨h, h'⟩),
    fun h h' => readByte_ram (busTarget_ram (.inr (.inl ⟨h, h'⟩))), ?unwired, ?wired, ?divider, ?_, ?_, ?_, ?_, ?_, ?_,
    fun h h' hne => readByte_io (busTarget_io ⟨h, h'⟩ hne),
    fun h h' => readByte_ram (busTarget_ram (.inr (.inr ⟨h, h'⟩))), ?_⟩
  case unwired =>
    rintro rfl hwired
    rw [readByte_joypad, hwired]
    rfl
  case wired =>
    rintro rfl hwired
    rw [readByte_joypad, afterRead_joypad, hwired]
    exact ⟨rfl, rfl⟩
  case divider =>
    rintro rfl
    exact ⟨rfl, rfl⟩
  all_goals
    rintro rfl
    rfl

/-- Settles O11: a read consumes a free value only at FF00 and FF04, and emits a diagnostic only past the image. -/
theorem readsChangeNoState : Obligations.ReadsChangeNoState := by
  intro s a
  refine ⟨afterRead_frame s a, fun h0 h4 => ⟨readByte_afterRead (.inl ⟨h0, h4⟩), afterRead_draws h0 h4⟩,
    fun hlen h => ?_, afterRead_diags⟩
  rw [afterRead_rom_beyond h hlen, State.addDiag_diags]

end Sys2Proof.Machine
end

section
/-! The DMA copy (20_memory.md R90): turn by turn, what it leaves alone and what it puts into OAM. -/

namespace Sys2Proof.Machine

open Sys2Proof.Claims

/-- The copy after its first `n` turns. -/
def dmaTurns (src : Word) (s : State) (n : Nat) : State :=
  (List.range n).foldl (dmaByte src) s

theorem dmaCopy_eq_dmaTurns (src : Word) (s : State) : dmaCopy src s = dmaTurns src s 160 := rfl

theorem dmaTurns_succ (src : Word) (s : State) (n : Nat) :
    dmaTurns src s (n + 1) = dmaByte src (dmaTurns src s n) n := by
  rw [dmaTurns, List.range_succ, List.foldl_append]
  rfl

@[simp] theorem dmaByte_mem (src : Word) (s : State) (i : Nat) :
    (dmaByte src s i).mem = s.mem.write (0xFE00 + i) (s.readByte (src + BitVec.ofNat 16 i)) := by
  simp [dmaByte]

@[simp] theorem dmaByte_draws (src : Word) (s : State) (i : Nat) :
    (dmaByte src s i).draws = (s.afterRead (src + BitVec.ofNat 16 i)).draws := rfl

theorem dmaByte_frame (src : Word) (s : State) (i : Nat) :
    dmaByte src s i =
      { s with mem := (dmaByte src s i).mem, draws := (dmaByte src s i).draws, diags := (dmaByte src s i).diags } := by
  unfold dmaByte
  rw [afterRead_frame]
  rfl

theorem dmaTurns_frame (src : Word) (s : State) (n : Nat) :
    dmaTurns src s n =
      { s with mem := (dmaTurns src s n).mem, draws := (dmaTurns src s n).draws, diags := (dmaTurns src s n).diags } := by
  have hframe : ∃ m d ds, dmaTurns src s n = { s with mem := m, draws := d, diags := ds } := by
    induction n with
    | zero => exact ⟨s.mem, s.draws, s.diags, rfl⟩
    | succ n ih =>
      obtain ⟨m, d, ds, h⟩ := ih
      rw [dmaTurns_succ, dmaByte_frame, h]
      exact ⟨_, _, _, rfl⟩
  obtain ⟨m, d, ds, h⟩ := hframe
  rw [h]

theorem dmaTurns_wf {src : Word} {s : State} (h : Memory.wf s.mem) (n : Nat) : Memory.wf (dmaTurns src s n).mem := by
  induction n with
  | zero => exact h
  | succ n ih =>
    rw [dmaTurns_succ, dmaByte_mem]
    exact Memory.write_wf ih _ _

/-- The first `n` turns write the first `n` bytes of OAM only. -/
theorem dmaTurns_read_outside (src : Word) (s : State) {n k : Nat} (hk : ¬ (0xFE00 ≤ k ∧ k < 0xFE00 + n)) :
    (dmaTurns src s n).mem.read k = s.mem.read k := by
  induction n with
  | zero => rfl
  | succ n ih =>
    rw [dmaTurns_succ, dmaByte_mem, Memory.read_write_ne _ (by omega), ih (by omega)]

/-- Turn `i` leaves in OAM what it read, and no later turn changes it. -/
theorem dmaTurns_read_oam {src : Word} {s : State} (h : Memory.wf s.mem) {i n : Nat} (hi : i < n) :
    (dmaTurns src s n).mem.read (0xFE00 + i) = (dmaTurns src s i).readByte (src + BitVec.ofNat 16 i) := by
  induction n with
  | zero => omega
  | succ n ih =>
    rw [dmaTurns_succ, dmaByte_mem]
    rcases Nat.lt_succ_iff_lt_or_eq.1 hi with hlt | rfl
    · rw [Memory.read_write_ne _ (by omega), ih hlt]
    · exact Memory.read_write_self (dmaTurns_wf h i) _ _

theorem readByte_dmaTurns {src : Word} {s : State} {n : Nat} {b : Word}
    (hb : ¬ (0xFE00 ≤ b.toNat ∧ b.toNat < 0xFE00 + n))
    (hd : (b ≠ 0xFF00 ∧ b ≠ 0xFF04) ∨ (dmaTurns src s n).draws = s.draws) :
    (dmaTurns src s n).readByte b = s.readByte b := by
  rw [dmaTurns_frame]
  refine readByte_frame (fun k hk => dmaTurns_read_outside src s ?_) hd
  rintro ⟨hlo, hhi⟩
  rcases hk with hk | hk
  · exact absurd (busTarget_rom_lt hk) (by omega)
  · have hbk : b.toNat = k := toNat_of_busTarget hk hlo
    omega

theorem dmaSource_add (v : Byte) (i : Nat) :
    wordOfBytes 0x00 v + BitVec.ofNat 16 i = BitVec.ofNat 16 (256 * v.toNat + i) := by
  rw [BitVec.ofNat_add, BitVec.add_left_inj]
  apply BitVec.eq_of_toNat_eq
  have := v.isLt
  simp [toNat_wordOfBytes]
  omega

/-- The source page begins at a multiple of 256, so no turn reads an OAM byte that an earlier one wrote, and only the first can
read FF00. -/
theorem dmaTurns_readByte_source (s : State) (v : Byte) {i : Nat} (hi : i < 160)
    (hdiv : BitVec.ofNat 16 (256 * v.toNat + i) ≠ 0xFF04) :
    (dmaTurns (wordOfBytes 0x00 v) s i).readByte (BitVec.ofNat 16 (256 * v.toNat + i)) =
      s.readByte (BitVec.ofNat 16 (256 * v.toNat + i)) := by
  have hv := v.isLt
  have hsrc : (BitVec.ofNat 16 (256 * v.toNat + i)).toNat = 256 * v.toNat + i :=
    (BitVec.toNat_ofNat _ _).trans (Nat.mod_eq_of_lt (by omega))
  refine readByte_dmaTurns (by omega) ?_
  rcases Nat.eq_zero_or_pos i with rfl | hpos
  · exact .inr rfl
  · refine .inl ⟨fun h => ?_, hdiv⟩
    have hstart : 256 * v.toNat + i = 0xFF00 := hsrc.symm.trans (congrArg BitVec.toNat h)
    omega

/-- Of the turns before the one that reads FF04 only the first can use a free value, at a wired FF00. -/
theorem dmaTurns_four_draws (s : State) :
    (dmaTurns (wordOfBytes 0x00 0xFF) s 4).draws = s.draws + (if s.joypadWired then 1 else 0) := by
  have hkeep (n : Nat) (h0 : wordOfBytes 0x00 0xFF + BitVec.ofNat 16 n ≠ 0xFF00)
      (h4 : wordOfBytes 0x00 0xFF + BitVec.ofNat 16 n ≠ 0xFF04) :
      (dmaTurns (wordOfBytes 0x00 0xFF) s (n + 1)).draws = (dmaTurns (wordOfBytes 0x00 0xFF) s n).draws := by
    rw [dmaTurns_succ, dmaByte_draws, afterRead_draws h0 h4]
  calc (dmaTurns (wordOfBytes 0x00 0xFF) s 4).draws
      = (dmaTurns (wordOfBytes 0x00 0xFF) s 1).draws := by
        rw [hkeep 3 (by decide) (by decide), hkeep 2 (by decide) (by decide), hkeep 1 (by decide) (by decide)]
    _ = (s.afterRead 0xFF00).draws := rfl
    _ = s.draws + (if s.joypadWired then 1 else 0) := by
        rw [afterRead_joypad]
        split <;> rfl

/-! ### The whole copy -/

theorem dmaCopy_frame (src : Word) (s : State) :
    dmaCopy src s =
      { s with mem := (dmaCopy src s).mem, draws := (dmaCopy src s).draws, diags := (dmaCopy src s).diags } := by
  rw [dmaCopy_eq_dmaTurns]
  exact dmaTurns_frame src s 160

theorem dmaCopy_wf {src : Word} {s : State} (h : Memory.wf s.mem) : Memory.wf (dmaCopy src s).mem := by
  rw [dmaCopy_eq_dmaTurns]
  exact dmaTurns_wf h 160

theorem readByte_dmaCopy {src : Word} {s : State} {b : Word} (hb : ¬ (0xFE00 ≤ b.toNat ∧ b.toNat < 0xFEA0))
    (hd : (b ≠ 0xFF00 ∧ b ≠ 0xFF04) ∨ (dmaCopy src s).draws = s.draws) :
    (dmaCopy src s).readByte b = s.readByte b := by
  rw [dmaCopy_eq_dmaTurns] at hd ⊢
  exact readByte_dmaTurns hb hd

theorem readByte_oam (s : State) {i : Nat} (hi : i < 160) :
    s.readByte (BitVec.ofNat 16 (0xFE00 + i)) = s.mem.read (0xFE00 + i) := by
  have haddr : (BitVec.ofNat 16 (0xFE00 + i)).toNat = 0xFE00 + i :=
    (BitVec.toNat_ofNat _ _).trans (Nat.mod_eq_of_lt (by omega))
  rw [readByte_ram (busTarget_ram (by omega)), haddr]

/-- What the copy leaves in OAM is what each turn read. -/
theorem readByte_dmaCopy_oam {s : State} (v : Byte) (hwf : Memory.wf s.mem) {i : Nat} (hi : i < 160) :
    (dmaCopy (wordOfBytes 0x00 v) s).readByte (BitVec.ofNat 16 (0xFE00 + i)) =
      (dmaTurns (wordOfBytes 0x00 v) s i).readByte (BitVec.ofNat 16 (256 * v.toNat + i)) := by
  rw [readByte_oam _ hi, dmaCopy_eq_dmaTurns, dmaTurns_read_oam hwf hi, dmaSource_add]

theorem readByte_dmaCopy_divider {s : State} (hwf : Memory.wf s.mem) :
    (dmaCopy (wordOfBytes 0x00 0xFF) s).readByte 0xFE04 =
      Config.divDraw (s.draws + (if s.joypadWired then 1 else 0)) := by
  rw [← dmaTurns_four_draws, ← readByte_divider]
  exact readByte_dmaCopy_oam 0xFF hwf (i := 4) (by decide)

end Sys2Proof.Machine
end

section
/-! Stores (20_memory.md R74–R94): the only byte a store changes is its own target's, and in plain storage that byte is read
back; to FF46 it also copies a page into OAM. -/

namespace Sys2Proof.Machine

open Sys2Proof.Claims

theorem readByte_setMem {s : State} {k : Nat} (v : Byte) {b : Word} (hk : 0x8000 ≤ k) (hb : busTarget b ≠ .ram k) :
    (s.setMem k v).readByte b = s.readByte b :=
  readByte_withMem fun j hj => by
    refine Memory.read_write_ne s.mem ?_ v
    rintro rfl
    rcases hj with hj | hj
    · exact absurd (busTarget_rom_lt hj) (by omega)
    · exact hb hj

/-- A byte of the I/O buffer is read at its own address, the selector at FF00 and the source page at FF46. -/
theorem readByte_setIo {s : State} {i : Fin 256} (v : Byte) {b : Word} (hio : busTarget b ≠ .io i)
    (hjoypad : busTarget b = .joypad → i ≠ 0x00) (hdma : busTarget b = .dma → i ≠ 0x46) :
    (s.setIo i v).readByte b = s.readByte b := by
  unfold State.readByte State.joypadByte
  cases hb : busTarget b with
  | io j => exact Vector.getElem_set_ne i.isLt j.isLt fun h => hio (hb.trans (congrArg _ (Fin.ext h.symm)))
  | joypad =>
    have hsel : (s.setIo i v).io[0x00] = s.io[0x00] :=
      Vector.getElem_set_ne i.isLt (by decide) fun h => hjoypad hb (Fin.ext h)
    simp only [hsel, State.setIo_joypadWired, State.setIo_draws]
  | dma => exact Vector.getElem_set_ne i.isLt (by decide) fun h => hdma hb (Fin.ext h)
  | _ => rfl

/-- No read sees the I/O bytes behind FF04 and FF44 (R83, R89). -/
theorem readByte_setIo_unread {s : State} {i : Fin 256} (v : Byte) (b : Word) (hi : i = 0x04 ∨ i = 0x44) :
    (s.setIo i v).readByte b = s.readByte b := by
  rcases hi with rfl | rfl <;>
    exact readByte_setIo v (busTarget_ne_io b (by decide)) (fun _ => by decide) fun _ => by decide

/-- A store changes what is read at its own target only (but for the copy of FF46). -/
theorem readByte_writeByte_of_target_ne {s : State} {a b : Word} (v : Byte) (hne : busTarget b ≠ busTarget a)
    (hdma : busTarget a ≠ .dma) : (s.writeByte a v).readByte b = s.readByte b := by
  unfold State.writeByte
  cases ha : busTarget a with
  | rom i => rfl
  | ram k =>
    have := busTarget_ram_home ha
    exact readByte_setMem v (by omega) (ha ▸ hne)
  | joypad =>
    exact readByte_setIo v (busTarget_ne_io b (by decide)) (fun h => absurd (h.trans ha.symm) hne) fun _ => by decide
  | divider => exact readByte_setIo_unread v b (.inl rfl)
  | scanline => exact readByte_setIo_unread v b (.inr rfl)
  | dma => exact absurd ha hdma
  | io i =>
    obtain ⟨-, h00, -, -, h46⟩ := busTarget_io_index ha
    exact readByte_setIo v (ha ▸ hne) (fun _ h => h00 (congrArg Fin.val h)) fun _ h => h46 (congrArg Fin.val h)
  -- the five aliased registers, each read at its own target only
  | _ =>
    unfold State.readByte
    cases hb : busTarget b <;> first | rfl | exact absurd (hb.trans ha.symm) hne

theorem writeByte_rom {s : State} {a : Word} (v : Byte) (h : a.toNat < 0x8000) : s.writeByte a v = s := by
  rw [State.writeByte, busTarget_rom h]

theorem writeByte_ram {s : State} {a : Word} {k : Nat} (v : Byte) (h : busTarget a = .ram k) :
    s.writeByte a v = s.setMem k v := by
  rw [State.writeByte, h]

theorem writeByte_io {s : State} {a : Word} {i : Fin 256} (v : Byte) (h : busTarget a = .io i) :
    s.writeByte a v = s.setIo i v := by
  rw [State.writeByte, h]

theorem writeByte_dma (s : State) (v : Byte) :
    s.writeByte 0xFF46 v = dmaCopy (wordOfBytes 0x00 v) (s.setIo 0x46 v) := rfl

theorem onlyStores_writeByte (s : State) (a : Word) (v : Byte) : OnlyStores s (s.writeByte a v) [a] := by
  intro b hout hfree
  obtain ⟨hbyte, hoam⟩ := hout a (List.mem_singleton_self a)
  rcases hbyte with hrom | hbyte
  · rw [writeByte_rom v hrom]
  have hne : busTarget b ≠ busTarget a := fun h => hbyte (busTarget_eq_iff.1 h.symm)
  by_cases ha : a = 0xFF46
  · subst ha
    rw [writeByte_dma] at hfree ⊢
    calc (dmaCopy (wordOfBytes 0x00 v) (s.setIo 0x46 v)).readByte b
        = (s.setIo 0x46 v).readByte b := readByte_dmaCopy (hoam rfl) hfree
      _ = s.readByte b := readByte_setIo v (busTarget_ne_io b (by decide)) (fun _ => by decide)
          fun h => absurd h hne
  · exact readByte_writeByte_of_target_ne v hne fun h => ha (BitVec.eq_of_toNat_eq (toNat_of_busTarget h (by decide)))

theorem writeByte_frame (s : State) (a : Word) (v : Byte) :
    s.writeByte a v =
      { s with
        mem := (s.writeByte a v).mem
        io := (s.writeByte a v).io
        intr := { s.intr with pending := (s.writeByte a v).intr.pending, enable := (s.writeByte a v).intr.enable }
        ppu := { s.ppu with
          control := (s.writeByte a v).ppu.control
          scrollY := (s.writeByte a v).ppu.scrollY
          scrollX := (s.writeByte a v).ppu.scrollX }
        draws := (s.writeByte a v).draws
        diags := (s.writeByte a v).diags } := by
  unfold State.writeByte
  cases busTarget a with
  | dma =>
    simp only [dmaCopy_intr, dmaCopy_ppu, dmaCopy_io]
    exact dmaCopy_frame _ (s.setIo 0x46 v)
  | _ => rfl

/-- Settles O13: reads of other targets are as before, and no store writes any other field. -/
theorem storesChangeOnlyTheirByte : Obligations.StoresChangeOnlyTheirByte := by
  intro s a v
  exact ⟨writeByte_rom v, onlyStores_writeByte s a v, writeByte_frame s a v⟩

theorem readByte_writeByte_self {s : State} {a : Word} (v : Byte) (hwf : Memory.wf s.mem) (ha : PlainStorage a) :
    (s.writeByte a v).readByte a = v := by
  rcases plainStorage_target ha with ⟨k, hk⟩ | ⟨i, hi⟩
  · rw [readByte_ram hk, writeByte_ram v hk]
    exact Memory.read_write_self hwf k v
  · rw [readByte_io hi, writeByte_io v hi]
    exact Vector.getElem_set_self i.isLt

theorem readByte_of_sameByte {a b : Word} (h : sameByte a b) (s : State) : s.readByte b = s.readByte a := by
  rw [State.readByte, ← busTarget_eq_iff.2 h, State.readByte]

theorem writeByte_plain_frame (s : State) {a : Word} (v : Byte) (ha : PlainStorage a) :
    s.writeByte a v = { s with mem := (s.writeByte a v).mem, io := (s.writeByte a v).io } := by
  rcases plainStorage_target ha with ⟨k, hk⟩ | ⟨i, hi⟩
  · rw [writeByte_ram v hk]
    rfl
  · rw [writeByte_io v hi]
    rfl

/-- Settles O12: the byte is read back at its address, and the echo has the same target. -/
theorem plainStorageReadsBack : Obligations.PlainStorageReadsBack := by
  intro s a v hwf ha
  refine ⟨fun b hb => ?_, writeByte_plain_frame s v ha⟩
  rw [readByte_of_sameByte hb, readByte_writeByte_self v hwf ha]

/-- Settles O14: the aliased registers by the decoder's targets; FF04 and FF44 by the bytes no read sees. -/
theorem specialAddressesStoreAsTheirRulesSay : Obligations.SpecialAddressesStoreAsTheirRulesSay := by
  intro s v
  exact ⟨⟨rfl, rfl, rfl, rfl, rfl⟩, ⟨rfl, rfl⟩, ⟨rfl, rfl⟩, ⟨rfl, rfl⟩, ⟨rfl, rfl⟩, ⟨rfl, rfl⟩,
    ⟨rfl, fun b => readByte_setIo_unread v b (.inl rfl)⟩, ⟨rfl, fun b => readByte_setIo_unread v b (.inr rfl)⟩⟩

theorem writeByte_wf {s : State} (h : Memory.wf s.mem) (a : Word) (v : Byte) : Memory.wf (s.writeByte a v).mem := by
  unfold State.writeByte
  cases busTarget a with
  | ram k => exact Memory.write_wf h k v
  | dma => exact dmaCopy_wf h
  | _ => exact h

/-- Settles O15: each OAM byte is what its turn read, which for every address but FF04 is what was there before the copy. -/
theorem dmaCopiesAPage : Obligations.DmaCopiesAPage := by
  intro s v t s1 hwf ht hs1
  obtain rfl : s1 = s.setIo 0x46 v := hs1
  rw [writeByte_dma] at ht
  subst ht
  refine ⟨?_, fun i hi hdiv => ?_, ?_, fun b hout hfree => ?_, dmaCopy_frame _ (s.setIo 0x46 v)⟩
  · rw [readByte_dma, dmaCopy_io]
    exact Vector.getElem_set_self (by decide)
  · rw [readByte_dmaCopy_oam (s := s.setIo 0x46 v) v hwf hi, dmaTurns_readByte_source _ v hi hdiv]
  · rintro rfl
    exact readByte_dmaCopy_divider hwf
  · exact readByte_dmaCopy ((hout 0xFF46 (List.mem_singleton_self _)).2 rfl) hfree

end Sys2Proof.Machine
end

section
/-! Words on the bus and the stack (20_memory.md R96–R100): two byte accesses, the low byte first. -/

namespace Sys2Proof.Machine

open Sys2Proof.Claims

theorem readShort_toNat (s : State) (a : Word) :
    (s.readShort a).toNat = 256 * ((s.afterRead a).readByte (a + 1)).toNat + (s.readByte a).toNat :=
  toNat_wordOfBytes _ _

theorem writeShort_eq (s : State) (a v : Word) :
    s.writeShort a v = (s.writeByte a (BitVec.ofNat 8 v.toNat)).writeByte (a + 1) (BitVec.ofNat 8 (v.toNat / 256)) := by
  rw [State.writeShort, loByte_eq_ofNat, hiByte_eq_ofNat]

theorem not_sameByte_succ (a : Word) : ¬ sameByte (a + 1) a := by
  have hsucc : (a + 1).toNat = (a.toNat + 1) % 65536 := BitVec.toNat_add a 1
  have ha := a.isLt
  rw [sameByte_iff]
  omega

theorem plainStorage_ne_free {a : Word} (h : PlainStorage a) : a ≠ 0xFF00 ∧ a ≠ 0xFF04 := by
  obtain ⟨-, -, h00, h04, -⟩ := h
  exact ⟨h00, h04⟩

theorem plainStorage_ne_dma {a : Word} (h : PlainStorage a) : a ≠ 0xFF46 := by
  obtain ⟨-, -, -, -, -, -, -, -, -, h46⟩ := h
  exact h46

theorem writeShort_readByte_low {s : State} {a : Word} (v : Word) (hwf : Memory.wf s.mem) (ha : PlainStorage a)
    (hb : PlainStorage (a + 1)) : (s.writeShort a v).readByte a = loByte v := by
  have houtside : ∀ c ∈ [a + 1], Outside c a := by
    rintro c hc
    rw [List.mem_singleton.1 hc]
    exact ⟨.inr (not_sameByte_succ a), fun h => absurd h (plainStorage_ne_dma hb)⟩
  calc (s.writeShort a v).readByte a
      = (s.writeByte a (loByte v)).readByte a := onlyStores_writeByte _ _ _ a houtside (.inl (plainStorage_ne_free ha))
    _ = loByte v := readByte_writeByte_self _ hwf ha

theorem writeShort_readByte_high {s : State} {a : Word} (v : Word) (hwf : Memory.wf s.mem) (hb : PlainStorage (a + 1)) :
    (s.writeShort a v).readByte (a + 1) = hiByte v :=
  readByte_writeByte_self _ (writeByte_wf hwf a _) hb

theorem writeShort_readShort {s : State} {a : Word} (v : Word) (hwf : Memory.wf s.mem) (ha : PlainStorage a)
    (hb : PlainStorage (a + 1)) : (s.writeShort a v).readShort a = v := by
  rw [State.readShort, readByte_afterRead (.inl (plainStorage_ne_free hb)), writeShort_readByte_low v hwf ha hb,
    writeShort_readByte_high v hwf hb, wordOfBytes_lo_hi]

/-- Settles O16: the store of the high byte leaves the low one, and neither plain read disturbs the other. -/
theorem wordAccessIsTwoByteAccesses : Obligations.WordAccessIsTwoByteAccesses := by
  intro s a v
  refine ⟨readShort_toNat s a, writeShort_eq s a v, fun hwf ha hb => ⟨writeShort_readShort v hwf ha hb, ?_, ?_⟩⟩
  · rw [writeShort_readByte_low v hwf ha hb, loByte_eq_ofNat]
  · rw [writeShort_readByte_high v hwf hb, hiByte_eq_ofNat]

/-- Settles O17: the pop reads the word the push wrote, at the same `sp`. -/
theorem pushThenPopReturnsTheValue : Obligations.PushThenPopReturnsTheValue := by
  intro s v hwf hlo hhi
  have hnext : s.regs.sp - 2 + 1 = s.regs.sp - 1 := by bv_omega
  constructor
  · rw [State.popValue, pushWord_regs]
    exact writeShort_readShort (s := s.setSp (s.regs.sp - 2)) v hwf hlo (hnext ▸ hhi)
  · simp

end Sys2Proof.Machine
end

section
/-! What no instruction and no step touches (20_memory.md R71, R74, R110, 10_state.md R40): the ROM, the parameters and the
load status; the clock never goes back. -/

namespace Sys2Proof.Machine

/-- Settles O25: an instruction runs its operation, and no operation touches these. -/
theorem everyInstructionCompletes : Obligations.EveryInstructionCompletes := by
  intro i s
  have h := Action.run_kept (actionOf i) s
  exact ⟨_, exec_eq_run i s, h.stores.romLen, h.stores.rom, h.cartridge, h.params, h.joypadWired, h.scanline, h.tick, h.mode,
    h.lastTicks, h.ticks⟩

@[simp] theorem ppuStep_params (s : State) : (ppuStep s).params = s.params := by
  rw [ppuStep_frame]

/-- Settles O32: the instruction, the pixel-timing step and the interrupt step in turn. -/
theorem stepsNeverChangeTheRom : Obligations.StepsNeverChangeTheRom := by
  intro s t h
  have hstores := storesKept_step h
  obtain ⟨-, -, u, hu, -, rfl⟩ := step_next h
  have hcpu := kept_cpuStep hu
  have hint := kept_intStep (ppuStep u)
  refine ⟨hstores.romLen, hstores.rom, ?_, ?_, ?_⟩
  · rw [hint.params, ppuStep_params, hcpu.params]
  · rw [hint.cartridge, ppuStep_cartridge, hcpu.cartridge]
  · calc s.ticks ≤ u.ticks := hcpu.ticks
      _ = (ppuStep u).ticks := (ppuStep_ticks u).symm
      _ ≤ (intStep (ppuStep u)).ticks := hint.ticks

end Sys2Proof.Machine
end

section
/-! Decoding and encoding (30_encoding.md R120–R122, R126, R134): what the decoder does with each kind of entry, that the
encoder writes the bytes of the same entry, and that the two are inverse to each other. -/

namespace Sys2Proof

/-! ### The decoder by the kind of the entry -/

theorem decode_implied {op : Byte} {i : Instr} (rest : List Byte) (h : opcodeEntry op = .implied i) :
    decode (op :: rest) = .ok (i, rest) := by
  simp [decode, h]

theorem decode_byte {op : Byte} {mk : Byte → Instr} (n : Byte) (rest : List Byte) (h : opcodeEntry op = .byte mk) :
    decode (op :: n :: rest) = .ok (mk n, rest) := by
  simp [decode, h]

theorem decode_word {op : Byte} {mk : Word → Instr} (lo hi : Byte) (rest : List Byte) (h : opcodeEntry op = .word mk) :
    decode (op :: lo :: hi :: rest) = .ok (mk (wordOfBytes lo hi), rest) := by
  simp [decode, h]

theorem decode_word_of_bytes {op : Byte} {mk : Word → Instr} (nn : Word) (rest : List Byte)
    (h : opcodeEntry op = .word mk) : decode (op :: loByte nn :: hiByte nn :: rest) = .ok (mk nn, rest) := by
  rw [decode_word _ _ _ h, wordOfBytes_lo_hi]

/-- Settles O1: an instruction's opcode has an entry of that instruction, whose kind says which bytes follow; a word operand
is put together again from its two bytes. -/
theorem decodeOfEncodeIsTheInstruction : Obligations.DecodeOfEncodeIsTheInstruction := by
  intro i rest hwf
  cases i
  case prefixCb n => cases hwf
  case ldBcNn nn | ldIndNnSp nn | ldDeNn nn | ldHlNn nn | ldSpNn nn | jpNzNn nn | jpNn nn | callNzNn nn | jpZNn nn
      | callZNn nn | callNn nn | jpNcNn nn | callNcNn nn | jpCNn nn | callCNn nn | ldIndNnA nn | ldAIndNn nn =>
    exact decode_word_of_bytes nn rest rfl
  all_goals rfl

/-! ### The encoder by the opcode -/

/-- The operand bytes of an entry, its operand given as one word: none, the low one, or both (30_encoding.md R122). -/
def OpcodeEntry.operandBytes (w : Word) : OpcodeEntry → List Byte
  | .implied _ => []
  | .byte _ => [loByte w]
  | .word _ => [loByte w, hiByte w]

theorem encode_cbInstr : ∀ n : Byte, encode (cbInstr n) = [0xCB, n] := by
  decide

/-- The encoder writes the opcode and the operand bytes of the entry, row by row of the two tables (30_encoding.md R126,
R134). -/
theorem encode_opcodeEntry_instr (op : Byte) (w : Word) :
    encode ((opcodeEntry op).instr w) = op :: (opcodeEntry op).operandBytes w := by
  obtain ⟨k, hk, rfl⟩ : ∃ k < 256, op = BitVec.ofNat 8 k := ⟨op.toNat, op.isLt, by simp⟩
  rcases Nat.lt_trichotomy k 0xCB with hlt | rfl | hgt
  · interval_cases k <;> rfl
  · exact encode_cbInstr (loByte w)
  · interval_cases k <;> rfl

theorem wellFormed_of_head_ne {i : Instr} (h : (encode i).headD 0x00 ≠ 0xCB) : i.wellFormed = true := by
  cases i with
  | prefixCb n => exact absurd rfl h
  | _ => rfl

/-- No entry makes the bare PREFIX CB: its encoding begins with 0xCB, whose entry makes the CB instructions (log 9). -/
theorem opcodeEntry_instr_wellFormed (op : Byte) (w : Word) : ((opcodeEntry op).instr w).wellFormed = true := by
  by_cases hop : op = 0xCB
  · have hcb : ∀ n : Byte, (cbInstr n).wellFormed = true := by decide
    rw [hop]
    exact hcb (loByte w)
  · exact wellFormed_of_head_ne (by rwa [opcodeEntry_instr_head])

/-- What the decoder accepts is an instruction of the first byte's entry, followed by what it leaves. -/
theorem decode_cons_operandBytes {op : Byte} {bytes rest : List Byte} {i : Instr}
    (h : decode (op :: bytes) = .ok (i, rest)) :
    ∃ w, i = (opcodeEntry op).instr w ∧ bytes = (opcodeEntry op).operandBytes w ++ rest := by
  simp only [decode] at h
  split at h
  next j r he =>
    cases h
    exact ⟨0, by rw [he]; exact ⟨rfl, rfl⟩⟩
  next mk n r he =>
    cases h
    exact ⟨wordOfBytes n 0x00, by simp [he, OpcodeEntry.instr, OpcodeEntry.operandBytes]⟩
  next mk lo hi r he =>
    cases h
    exact ⟨wordOfBytes lo hi, by simp [he, OpcodeEntry.instr, OpcodeEntry.operandBytes]⟩
  next => cases h

/-- Settles O2: the bytes taken are the opcode and the operand bytes of its entry, which is what the encoder writes. -/
theorem encodeOfDecodeIsTheBytes : Obligations.EncodeOfDecodeIsTheBytes := by
  intro bytes rest i h
  cases bytes with
  | nil => cases h
  | cons op bytes =>
    obtain ⟨w, rfl, rfl⟩ := decode_cons_operandBytes h
    exact ⟨opcodeEntry_instr_wellFormed op w, by rw [encode_opcodeEntry_instr]; rfl⟩

end Sys2Proof
end

section
/-! Whole instructions (30_encoding.md R120, R138): enough bytes after an opcode always decode, and a fetch reads exactly
enough. -/

namespace Sys2Proof

theorem OpcodeEntry.width_le (e : OpcodeEntry) : e.width ≤ 2 := by
  cases e <;> simp [OpcodeEntry.width]

theorem operandWidth_le (op : Byte) : operandWidth op ≤ 2 :=
  (opcodeEntry op).width_le

/-- An opcode followed by at least its operand bytes decodes, and leaves the bytes after those (30_encoding.md R120). -/
theorem exists_decode_cons (op : Byte) (bytes : List Byte) (h : operandWidth op ≤ bytes.length) :
    ∃ i, decode (op :: bytes) = .ok (i, bytes.drop (operandWidth op)) := by
  unfold operandWidth at h ⊢
  cases he : opcodeEntry op with
  | implied i => exact ⟨i, decode_implied bytes he⟩
  | byte mk =>
    rw [he] at h
    match bytes, h with
    | n :: rest, _ => exact ⟨mk n, decode_byte n rest he⟩
  | word mk =>
    rw [he] at h
    match bytes, h with
    | lo :: hi :: rest, _ => exact ⟨mk (wordOfBytes lo hi), decode_word lo hi rest he⟩

namespace Machine

/-- A fetch reads the opcode, then its operand bytes from the next address on (30_encoding.md R127). -/
theorem fetchedBytes_eq (s : State) :
    s.fetchedBytes =
      s.fetchedOpcode :: fetchBytes (operandWidth s.fetchedOpcode) (s.regs.pc + 1) (s.afterRead s.regs.pc) := by
  rw [State.fetchedBytes, State.fetchedLength, Nat.add_comm]
  rfl

theorem exists_decode_fetchedBytes (s : State) : ∃ i, decode s.fetchedBytes = .ok (i, []) := by
  obtain ⟨i, hi⟩ := exists_decode_cons s.fetchedOpcode
    (fetchBytes (operandWidth s.fetchedOpcode) (s.regs.pc + 1) (s.afterRead s.regs.pc)) (by simp)
  exact ⟨i, by rw [fetchedBytes_eq, hi, List.drop_of_length_le (by simp)]⟩

end Machine

/-- Settles O3: three bytes hold the operand of any opcode, and a fetch reads as many bytes as its opcode needs. -/
theorem everyFetchDecodes : Obligations.EveryFetchDecodes := by
  refine ⟨fun op n m => ?_, Machine.exists_decode_fetchedBytes⟩
  have hwidth := operandWidth_le op
  obtain ⟨i, hi⟩ := exists_decode_cons op [n, m] hwidth
  refine ⟨i, _, hi, ?_, hwidth⟩
  simp only [List.length_drop, List.length_cons, List.length_nil]
  omega

end Sys2Proof
end

section
/-! The fields of an opcode (30_encoding.md R123–R126): each regular family of the primary map, by its field codes. -/

namespace Sys2Proof

open Sys2Proof.Claims

theorem ofNat_eq_wordOfBytes (lo hi : Byte) : BitVec.ofNat 16 (256 * hi.toNat + lo.toNat) = wordOfBytes lo hi := by
  rw [← toNat_wordOfBytes, BitVec.ofNat_toNat, BitVec.setWidth_eq]

theorem decode_loadForm (dst r : Operand8) :
    decode [0x40 + 8 * registerCode dst + registerCode r] = .ok (Instr.loadForm dst r, []) := by
  cases dst <;> cases r <;> rfl

theorem decode_aluForm (op : AluOp) (r : Operand8) :
    decode [0x80 + 8 * op.code + registerCode r] = .ok (Instr.aluForm op r, []) := by
  cases op <;> cases r <;> rfl

theorem decode_aluImmForm (op : AluOp) (n : Byte) :
    decode [0xC6 + 8 * op.code, n] = .ok (Instr.aluImmForm n op, []) := by
  cases op <;> rfl

/-- The statement's list of operations and fields y is `AluOp.code`. -/
theorem eq_code_of_mem {op : AluOp} {y : Byte}
    (h : (op, y) ∈ [(AluOp.add, 0), (.adc, 1), (.sub, 2), (.sbc, 3), (.and, 4), (.xor, 5), (.or, 6), (.cp, 7)]) :
    y = op.code := by
  cases op <;> simpa [AluOp.code] using h

theorem decode_operandForms (r : Operand8) (n : Byte) :
    decode [0x04 + 8 * registerCode r] = .ok (Instr.incForm r, []) ∧
    decode [0x05 + 8 * registerCode r] = .ok (Instr.decForm r, []) ∧
    decode [0x06 + 8 * registerCode r, n] = .ok (Instr.loadImmForm n r, []) := by
  cases r <;> exact ⟨rfl, rfl, rfl⟩

theorem decode_pairForms (p : Pair) (lo hi : Byte) :
    decode [0x01 + 16 * pairCode p, lo, hi] = .ok (Instr.loadPairForm (wordOfBytes lo hi) p, []) ∧
    decode [0x03 + 16 * pairCode p] = .ok (Instr.incPairForm p, []) ∧
    decode [0x0B + 16 * pairCode p] = .ok (Instr.decPairForm p, []) ∧
    decode [0x09 + 16 * pairCode p] = .ok (Instr.addHlForm p, []) := by
  cases p <;> exact ⟨rfl, rfl, rfl, rfl⟩

theorem decode_stackPairForms (p : StackPair) :
    decode [0xC1 + 16 * stackPairCode p] = .ok (Instr.popForm p, []) ∧
    decode [0xC5 + 16 * stackPairCode p] = .ok (Instr.pushForm p, []) := by
  cases p <;> exact ⟨rfl, rfl⟩

theorem decode_conditionForms (cc : Cond) (lo hi : Byte) :
    decode [0x20 + 8 * condCode cc, lo] = .ok (Instr.jumpRelativeIfForm lo cc, []) ∧
    decode [0xC0 + 8 * condCode cc] = .ok (Instr.returnIfForm cc, []) ∧
    decode [0xC2 + 8 * condCode cc, lo, hi] = .ok (Instr.jumpIfForm (wordOfBytes lo hi) cc, []) ∧
    decode [0xC4 + 8 * condCode cc, lo, hi] = .ok (Instr.callIfForm (wordOfBytes lo hi) cc, []) := by
  cases cc <;> exact ⟨rfl, rfl, rfl, rfl⟩

theorem decode_restartForm (k : Fin 8) : decode [0xC7 + 8 * bitCode k] = .ok (Instr.restartForm k, []) := by
  fin_cases k <;> rfl

/-- Settles O4: family by family, a 16-bit operand being the word of its bytes. -/
theorem primaryFieldsSelectOperands : Obligations.PrimaryFieldsSelectOperands := by
  unfold Obligations.PrimaryFieldsSelectOperands
  simp only [ofNat_eq_wordOfBytes]
  refine ⟨fun dst r _ => decode_loadForm dst r, fun op y r n hy => ?_, decode_operandForms, decode_pairForms,
    decode_stackPairForms, decode_conditionForms, decode_restartForm⟩
  rw [eq_code_of_mem hy]
  exact ⟨decode_aluForm op r, decode_aluImmForm op n⟩

/-- Settles O6: the table's entry of each opcode, and the word of the operand bytes. -/
theorem specWordsDecode : Obligations.SpecWordsDecode :=
  ⟨rfl, rfl, rfl, rfl, rfl, rfl, rfl, rfl, rfl, rfl, rfl, rfl⟩

end Sys2Proof
end

section
/-! The CB page (30_encoding.md R123, R134, 43_rotate_shift_bit.md R274): the sub-opcode's fields x, y, z select the row, and
the row does what the row PREFIX CB does with those fields. -/

namespace Sys2Proof

open Sys2Proof.Claims Sys2Proof.Machine

/-- The instruction of a CB sub-opcode by its fields, as `cbOperation` reads them. -/
def cbForm (n : Byte) : Instr :=
  let y := n.toNat / 8 % 8
  let o := operand8OfCode (n.toNat % 8)
  match n.toNat / 64 with
  | 0 => Instr.shiftForm (shiftOpOfCode y) o
  | 1 => Instr.bitForm (Fin.ofNat 8 y) o
  | 2 => Instr.resForm (Fin.ofNat 8 y) o
  | _ => Instr.setForm (Fin.ofNat 8 y) o

/-- The 256 rows of the CB table are the field pattern of R134. -/
theorem cbInstr_eq_cbForm : ∀ n : Byte, cbInstr n = cbForm n := by
  decide

theorem decode_cb (n : Byte) : decode [0xCB, n] = .ok (cbInstr n, []) :=
  decode_byte n [] rfl

theorem cbInstr_shiftForm (op : ShiftOp) (r : Operand8) :
    cbInstr (8 * shiftCode op + registerCode r) = Instr.shiftForm op r := by
  cases op <;> cases r <;> rfl

theorem cbInstr_bitForm (b : Fin 8) (r : Operand8) :
    cbInstr (0x40 + 8 * bitCode b + registerCode r) = Instr.bitForm b r := by
  fin_cases b <;> cases r <;> rfl

theorem cbInstr_resForm (b : Fin 8) (r : Operand8) :
    cbInstr (0x80 + 8 * bitCode b + registerCode r) = Instr.resForm b r := by
  fin_cases b <;> cases r <;> rfl

theorem cbInstr_setForm (b : Fin 8) (r : Operand8) :
    cbInstr (0xC0 + 8 * bitCode b + registerCode r) = Instr.setForm b r := by
  fin_cases b <;> cases r <;> rfl

namespace Machine

theorem exec_shiftForm (op : ShiftOp) (r : Operand8) (s : State) :
    exec (Instr.shiftForm op r) s = .next (shiftOperand op r s) := by
  cases op <;> cases r <;> rfl

theorem exec_bitForm (b : Fin 8) (r : Operand8) (s : State) : exec (Instr.bitForm b r) s = .next (testBit b r s) := by
  fin_cases b <;> cases r <;> rfl

theorem exec_resForm (b : Fin 8) (r : Operand8) (s : State) : exec (Instr.resForm b r) s = .next (resetBit b r s) := by
  fin_cases b <;> cases r <;> rfl

theorem exec_setForm (b : Fin 8) (r : Operand8) (s : State) : exec (Instr.setForm b r) s = .next (setBit b r s) := by
  fin_cases b <;> cases r <;> rfl

/-- A CB instruction performs the operation PREFIX CB reads from its sub-opcode (43_rotate_shift_bit.md R274). -/
theorem exec_cbInstr (n : Byte) (s : State) : exec (cbInstr n) s = .next (cbOperation n s) := by
  rw [cbInstr_eq_cbForm]
  unfold cbForm cbOperation
  generalize n.toNat / 64 = x
  match x with
  | 0 => exact exec_shiftForm _ _ s
  | 1 => exact exec_bitForm _ _ s
  | 2 => exact exec_resForm _ _ s
  | _ + 3 => exact exec_setForm _ _ s

end Machine

/-- Settles O5: the table by its fields; and the row of each sub-opcode does what PREFIX CB does. -/
theorem cbFieldsSelectOperations : Obligations.CbFieldsSelectOperations := by
  refine ⟨fun op r => ?_, fun b r => ⟨?_, ?_, ?_⟩,
    fun n s => ⟨cbInstr n, cbOperation n s, decode_cb n, exec_cbInstr n s, rfl, rfl⟩⟩
  · rw [decode_cb, cbInstr_shiftForm]
  · rw [decode_cb, cbInstr_bitForm]
  · rw [decode_cb, cbInstr_resForm]
  · rw [decode_cb, cbInstr_setForm]

end Sys2Proof
end

section
/-! A CPU step in parts (30_encoding.md R127–R129): the fetched bytes one by one, the state the handler runs in, and what the
step is when the machine is stopped, when its opcode traps, and when its instruction runs. -/

namespace Sys2Proof.Machine

open Sys2Proof.Claims

/-! ### The handler's state -/

theorem afterFetch_frame (n : Nat) (a : Word) (s : State) :
    afterFetch n a s = { s with draws := (afterFetch n a s).draws, diags := (afterFetch n a s).diags } := by
  induction n generalizing a s with
  | zero => rfl
  | succ n ih => rw [afterFetch, ih, afterRead_frame s a]

theorem pc_add_fetchedLength (s : State) :
    s.regs.pc + BitVec.ofNat 16 s.fetchedLength =
      BitVec.ofNat 16 (s.regs.pc.toNat + 1 + operandWidth (s.readByte s.regs.pc)) := by
  rw [Nat.add_assoc, BitVec.ofNat_add, BitVec.ofNat_toNat, BitVec.setWidth_eq]
  rfl

theorem atHandler_pc (s : State) :
    s.atHandler.regs.pc = BitVec.ofNat 16 (s.regs.pc.toNat + 1 + operandWidth (s.readByte s.regs.pc)) := by
  rw [atHandler_regs, pc_add_fetchedLength]

theorem atHandler_frame (s : State) :
    s.atHandler =
      { s with
        regs := { s.regs with pc := BitVec.ofNat 16 (s.regs.pc.toNat + 1 + operandWidth (s.readByte s.regs.pc)) }
        draws := s.atHandler.draws
        diags := s.atHandler.diags } := by
  rw [← pc_add_fetchedLength, State.atHandler, afterFetch_frame]
  rfl

/-- Settles O19: the opcode, then as many bytes as its width says, each read after the ones before. -/
theorem fetchReadsTheBytesAtPc : Obligations.FetchReadsTheBytesAtPc := by
  intro s
  have hbytes := fetchedBytes_eq s
  refine ⟨fun h => ?_, fun h => ?_, fun h => ?_, atHandler_frame s⟩
  all_goals rw [hbytes, State.fetchedOpcode, h]
  · rfl
  · rfl
  · have hnext : s.regs.pc + 2 = s.regs.pc + 1 + 1 := by bv_omega
    rw [hnext]
    rfl

/-! ### The three kinds of CPU step -/

theorem cpuStep_of_stopped {s : State} (h : s.stopped = true) : cpuStep s = .next s :=
  if_pos h

theorem cpuStep_of_traps {s : State} (hs : s.stopped = false) (ht : s.params.traps s.fetchedOpcode = true) :
    cpuStep s = .next (takeIllegalOpcode s.fetchedOpcode (operandWidth s.fetchedOpcode) s.atHandler) := by
  simp [cpuStep, hs, ht]

theorem cpuStep_of_decode {s u : State} {i : Instr} {rest : List Byte} (hs : s.stopped = false)
    (ht : s.params.traps s.fetchedOpcode = false) (hd : decode s.fetchedBytes = .ok (i, rest))
    (hu : exec i s.atHandler = .next u) : cpuStep s = .next (u.addTicks (s.params.baseCost s.fetchedBytes)) := by
  simp [cpuStep, hs, ht, hd, runInstruction, hu]

/-! ### The iteration -/

theorem step_of_running {s : State} (hc : s.cartridge = .loaded) (hr : s.run = .running) {u : State}
    (hu : cpuStep s = .next u) : step s = finishIteration u := by
  simp [step, iterate, hc, hr, hu]

theorem step_of_faulted {s : State} {r : FaultRecord} (hc : s.cartridge = .loaded) (hr : s.run = .faulted r) :
    step s = .fault (.illegalOpcode r) := by
  simp [step, iterate, hc, hr]

theorem finishIteration_running {s : State} (h : s.run = .running) : finishIteration s = .next (intStep (ppuStep s)) := by
  simp [finishIteration, h]

theorem finishIteration_faulted {s : State} {r : FaultRecord} (h : s.run = .faulted r) :
    finishIteration s = .fault (.illegalOpcode r) := by
  simp [finishIteration, h]

/-- Settles O18: the CPU step runs the decoded instruction, and one that does not fault goes on to the other agents. -/
theorem stepRunsTheDecodedInstruction : Obligations.StepRunsTheDecodedInstruction := by
  rintro s u i ⟨hc, hr, hs⟩ ht hd hu hrun
  rw [step_of_running hc hr (cpuStep_of_decode hs ht hd hu)]
  exact finishIteration_running hrun

/-- Settles O20: the CPU step is the identity, and neither other agent writes the latch. -/
theorem stoppedStepRunsOnlyTheOtherAgents : Obligations.StoppedStepRunsOnlyTheOtherAgents := by
  intro s hc hr hs
  have hcpu := cpuStep_of_stopped hs
  refine ⟨hcpu, ?_, ?_⟩
  · rw [step_of_running hc hr hcpu, finishIteration_running hr]
  · rw [intStep_stopped, ppuStep_stopped, hs]

/-! ### The trap -/

/-- Which opcodes trap: the eleven illegal ones and those with no handler (30_encoding.md R129, R132, R133). -/
theorem traps_iff (p : Params) (op : Byte) :
    p.traps op = true ↔ op ∈ illegalOpcodes ∨ p.implemented.getLsbD op.toNat = false := by
  simp [Params.traps]

/-- Rewinding past the width and the opcode undoes the fetch's advance. -/
theorem atHandler_pc_rewound (s : State) :
    s.atHandler.regs.pc - 1 - BitVec.ofNat 16 (operandWidth s.fetchedOpcode) = s.regs.pc := by
  rw [atHandler_regs, State.fetchedLength, BitVec.ofNat_add]
  generalize BitVec.ofNat 16 (operandWidth s.fetchedOpcode) = w
  bv_omega

theorem takeIllegalOpcode_run (op : Byte) (w : Nat) (s : State) :
    (takeIllegalOpcode op w s).run =
      .faulted
        { code := 1, addr := s.regs.pc - 1 - BitVec.ofNat 16 w, opcode := op, width := w
          regs := { s.regs with pc := s.regs.pc - 1 - BitVec.ofNat 16 w } } := rfl

/-- The record of a trap met by a fetch: every register as before the instruction (60_exceptions.md R361). -/
theorem takeIllegalOpcode_atHandler_run (s : State) :
    (takeIllegalOpcode s.fetchedOpcode (operandWidth s.fetchedOpcode) s.atHandler).run =
      .faulted
        { code := 1, addr := s.regs.pc, opcode := s.readByte s.regs.pc, width := operandWidth (s.readByte s.regs.pc)
          regs := s.regs } := by
  rw [takeIllegalOpcode_run, atHandler_pc_rewound, atHandler_regs]
  rfl

/-- Settles O21: the trap's record is made of the registers before the fetch, and the iteration ends in it. -/
theorem trapFaultsWithEveryRegister : Obligations.TrapFaultsWithEveryRegister := by
  refine ⟨traps_iff, ?_, fun s r hc hr => ⟨step_of_faulted hc hr, rfl⟩⟩
  rintro s ⟨hc, hr, hs⟩ ht record
  have hcpu := cpuStep_of_traps hs ht
  have hrun := takeIllegalOpcode_atHandler_run s
  refine ⟨?_, _, hcpu, hrun⟩
  rw [step_of_running hc hr hcpu]
  exact finishIteration_faulted hrun

end Sys2Proof.Machine
end

section
/-! What an instruction adds to `pc` and to the clock (30_encoding.md R130, R131): which instructions run a conditional
transfer, which run a transfer or the trap, and what the others leave to the fetch and to the tables. -/

namespace Sys2Proof.Machine

open Sys2Proof.Claims

/-! ### The instructions of the conditional transfers and of all transfers -/

theorem hasVariableCost_of_conditional {i : Instr} (h : (actionOf i).conditional = true) : HasVariableCost i := by
  cases i
  case jrNzE e => exact .inl ⟨e, .nz, rfl⟩
  case jrZE e => exact .inl ⟨e, .z, rfl⟩
  case jrNcE e => exact .inl ⟨e, .nc, rfl⟩
  case jrCE e => exact .inl ⟨e, .c, rfl⟩
  case jpNzNn nn => exact .inr (.inl ⟨nn, .nz, rfl⟩)
  case jpZNn nn => exact .inr (.inl ⟨nn, .z, rfl⟩)
  case jpNcNn nn => exact .inr (.inl ⟨nn, .nc, rfl⟩)
  case jpCNn nn => exact .inr (.inl ⟨nn, .c, rfl⟩)
  case callNzNn nn => exact .inr (.inr (.inl ⟨nn, .nz, rfl⟩))
  case callZNn nn => exact .inr (.inr (.inl ⟨nn, .z, rfl⟩))
  case callNcNn nn => exact .inr (.inr (.inl ⟨nn, .nc, rfl⟩))
  case callCNn nn => exact .inr (.inr (.inl ⟨nn, .c, rfl⟩))
  case retNz => exact .inr (.inr (.inr ⟨.nz, rfl⟩))
  case retZ => exact .inr (.inr (.inr ⟨.z, rfl⟩))
  case retNc => exact .inr (.inr (.inr ⟨.nc, rfl⟩))
  case retC => exact .inr (.inr (.inr ⟨.c, rfl⟩))
  all_goals cases h

theorem writesPc_of_hasVariableCost {i : Instr} (h : HasVariableCost i) : WritesPc i := by
  unfold WritesPc
  rcases h with h | h | h | h <;> simp only [h, true_or, or_true]

theorem writesPc_of_restart {i : Instr} (h : ∃ k, i = Instr.restartForm k) : WritesPc i := by
  simp only [WritesPc, h, true_or, or_true]

theorem writesPc_of_illegal {i : Instr} (h : ∃ k, i = Instr.illegalForm k) : WritesPc i := by
  simp only [WritesPc, h, or_true]

/-- The other transfers: the unconditional jumps, calls and returns, the restarts, and the trap of an illegal opcode. -/
theorem writesPc_of_unconditional {i : Instr} (h : ((actionOf i).transfers && !(actionOf i).conditional) = true) :
    WritesPc i := by
  cases i
  case jrE e => exact .inl ⟨e, rfl⟩
  case jpNn nn => exact .inr (.inr (.inl ⟨nn, rfl⟩))
  case callNn nn => exact .inr (.inr (.inr (.inr (.inr (.inl ⟨nn, rfl⟩)))))
  case jpHl | ret | reti => simp only [WritesPc, true_or, or_true]
  case rst00 | rst08 | rst10 | rst18 | rst20 | rst28 | rst30 | rst38 =>
    exact writesPc_of_restart (by decide)
  case illegalD3 | illegalDB | illegalDD | illegalE3 | illegalE4 | illegalEB | illegalEC | illegalED | illegalF4
      | illegalFC | illegalFD =>
    exact writesPc_of_illegal (by decide)
  all_goals cases h

theorem writesPc_of_transfers {i : Instr} (h : (actionOf i).transfers = true) : WritesPc i := by
  by_cases hc : (actionOf i).conditional = true
  · exact writesPc_of_hasVariableCost (hasVariableCost_of_conditional hc)
  · exact writesPc_of_unconditional (by simp [h, hc])

/-! ### `pc` -/

theorem run_pc_of_not_writesPc {i : Instr} (h : ¬ WritesPc i) (s : State) : ((actionOf i).run s).regs.pc = s.regs.pc :=
  run_pc (Bool.eq_false_of_not_eq_true (mt writesPc_of_transfers h)) s

/-- Settles O23: an operation that is no transfer leaves `pc` where the fetch put it, past the operand bytes. -/
theorem pcAdvancesByOnePlusWidth : Obligations.PcAdvancesByOnePlusWidth := by
  refine ⟨fun s i hi => ⟨_, exec_eq_run i s, run_pc_of_not_writesPc hi s⟩, ?_⟩
  intro s t i rest hs ht hd hi hstep
  have ht' := cpuStep_of_decode hs ht hd (exec_eq_run i s.atHandler)
  rw [ht', Host.Outcome.next.injEq] at hstep
  rw [← hstep, State.addTicks_regs, run_pc_of_not_writesPc hi, atHandler_pc]

/-! ### The clock -/

@[simp] theorem atHandler_ticks (s : State) : s.atHandler.ticks = s.ticks := by
  simp [State.atHandler]

theorem takeIllegalOpcode_ticks (op : Byte) (w : Nat) (s : State) : (takeIllegalOpcode op w s).ticks = s.ticks :=
  rfl

theorem baseCost_cb (p : Params) (n : Byte) (bytes : List Byte) :
    p.baseCost (0xCB :: n :: bytes) = p.ticksOf 0xCB + p.cbTicksOf n :=
  rfl

theorem baseCost_of_ne_cb (p : Params) {op : Byte} (bytes : List Byte) (h : op ≠ 0xCB) :
    p.baseCost (op :: bytes) = p.ticksOf op := by
  cases bytes with
  | nil => rfl
  | cons n bytes => rw [Params.baseCost, if_neg h, Nat.add_zero]

/-- The base cost of the instruction at `pc`: its table entry, and after 0xCB the sub-opcode's (30_encoding.md
R130). -/
theorem baseCost_fetchedBytes (s : State) :
    s.params.baseCost s.fetchedBytes =
      s.params.ticksOf s.fetchedOpcode +
        (if s.fetchedOpcode = 0xCB then s.params.cbTicksOf ((s.afterRead s.regs.pc).readByte (s.regs.pc + 1)) else 0) := by
  rw [fetchedBytes_eq]
  by_cases h : s.fetchedOpcode = 0xCB
  · rw [if_pos h, h]
    exact baseCost_cb _ _ _
  · rw [if_neg h, baseCost_of_ne_cb _ _ h, Nat.add_zero]

theorem run_ticks_of_not_variable {i : Instr} (h : ¬ HasVariableCost i) (s : State) :
    ((actionOf i).run s).ticks = s.ticks :=
  run_ticks (Bool.eq_false_of_not_eq_true (mt hasVariableCost_of_conditional h)) s

/-- Settles O24: the operation adds nothing itself, so the base cost is all; the trap adds nothing. -/
theorem costIsTheTableEntry : Obligations.CostIsTheTableEntry := by
  refine ⟨fun s t i rest hs ht hd hi hstep => ?_, fun s t hs ht hstep => ?_⟩
  · rw [cpuStep_of_decode hs ht hd (exec_eq_run i s.atHandler), Host.Outcome.next.injEq] at hstep
    rw [← hstep, State.addTicks_ticks, run_ticks_of_not_variable hi, atHandler_ticks, baseCost_fetchedBytes,
      ← Nat.add_assoc]
    rfl
  · rw [cpuStep_of_traps hs ht, Host.Outcome.next.injEq] at hstep
    rw [← hstep, takeIllegalOpcode_ticks, atHandler_ticks]

end Sys2Proof.Machine
end

section
/-! The illegal opcodes (30_encoding.md R132, 45_system.md R345): each is the trap of its own byte, with no operand bytes. -/

namespace Sys2Proof.Machine

open Sys2Proof.Claims

theorem takeIllegalOpcode_eq (op : Byte) (w : Nat) (s : State) :
    let regs := { s.regs with pc := s.regs.pc - 1 - BitVec.ofNat 16 w }
    let record : FaultRecord :=
      { code := 1, addr := s.regs.pc - 1 - BitVec.ofNat 16 w, opcode := op, width := w, regs := regs }
    takeIllegalOpcode op w s = { s with regs := regs, run := .faulted record, diags := .fault record :: s.diags } :=
  rfl

/-- An illegal opcode is encoded as its byte, and its whole effect is the trap. -/
theorem illegalForm_takes_trap {k : Fin 11} {op : Byte} (hk : illegalOpcodes[k.val]? = some op) (s : State) :
    encode (Instr.illegalForm k) = [op] ∧ exec (Instr.illegalForm k) s = .next (takeIllegalOpcode op 0 s) := by
  fin_cases k <;> cases hk <;> exact ⟨rfl, rfl⟩

/-- The trap stores nothing: a read sees no register, no `run` and no diagnostic. -/
theorem onlyStores_takeIllegalOpcode (op : Byte) (w : Nat) (s : State) : OnlyStores s (takeIllegalOpcode op w s) [] :=
  fun _ _ _ => rfl

/-- Settles O59: the trap as it is defined; and each illegal opcode runs it with nothing to rewind but its own byte. -/
theorem illegalOpcodesTakeTheTrap : Obligations.IllegalOpcodesTakeTheTrap := by
  refine ⟨fun s op w => takeIllegalOpcode_eq op w s, ?_⟩
  intro s k op hk regs record
  obtain ⟨hencode, hexec⟩ := illegalForm_takes_trap hk s
  have htrap : takeIllegalOpcode op 0 s =
      { s with regs := regs, run := .faulted record, diags := .fault record :: s.diags } := by
    rw [takeIllegalOpcode_eq, BitVec.sub_zero]
  rw [← htrap]
  exact ⟨hencode, hexec, onlyStores_takeIllegalOpcode op 0 s⟩

end Sys2Proof.Machine
end

section
/-! What a sequence of bus accesses changes in memory (20_memory.md R104): frames that compose. -/

namespace Sys2Proof.Machine

open Sys2Proof.Claims

/-- `OnlyStores`, and the count of free values never goes back: the two together compose, since a count that ends as it began
was then the same in between. -/
structure BusFrame (s t : State) (stored : List Word) : Prop where
  only : OnlyStores s t stored
  draws : s.draws ≤ t.draws

theorem BusFrame.refl (s : State) : BusFrame s s [] :=
  ⟨fun _ _ _ => rfl, Nat.le_refl _⟩

/-- No read sees a register. -/
theorem BusFrame.withRegs {s t : State} {stored : List Word} (h : BusFrame s t stored) (r : Regs) :
    BusFrame s { t with regs := r } stored :=
  ⟨h.only, h.draws⟩

theorem BusFrame.trans {s t u : State} {first second : List Word} (h : BusFrame s t first) (k : BusFrame t u second) :
    BusFrame s u (first ++ second) := by
  refine ⟨fun b hout hfree => ?_, h.draws.trans k.draws⟩
  have hfirst : ∀ a ∈ first, Outside a b := fun a ha => hout a (List.mem_append_left _ ha)
  have hsecond : ∀ a ∈ second, Outside a b := fun a ha => hout a (List.mem_append_right _ ha)
  have hst := h.draws
  have htu := k.draws
  calc u.readByte b
      = t.readByte b := k.only b hsecond (hfree.imp_right fun hsu => by omega)
    _ = s.readByte b := h.only b hfirst (hfree.imp_right fun hsu => by omega)

/-! ### Byte and word accesses -/

theorem draws_le_afterRead (s : State) (a : Word) : s.draws ≤ (s.afterRead a).draws := by
  rcases afterRead_cases s a with h | h | h <;> simp [h]

theorem draws_le_dmaCopy (src : Word) (s : State) : s.draws ≤ (dmaCopy src s).draws :=
  dmaCopy_induct (P := fun t => s.draws ≤ t.draws) (Nat.le_refl _) fun t _ _ ht => ht.trans (draws_le_afterRead t _)

/-- Only the copy of FF46 reads, hence only it can consume free values. -/
theorem draws_le_writeByte (s : State) (a : Word) (v : Byte) : s.draws ≤ (s.writeByte a v).draws := by
  unfold State.writeByte
  cases busTarget a with
  | dma => exact draws_le_dmaCopy _ (s.setIo 0x46 v)
  | _ => exact Nat.le_refl _

theorem busFrame_afterRead (s : State) (a : Word) : BusFrame s (s.afterRead a) [] :=
  ⟨fun _ _ hfree => readByte_afterRead hfree, draws_le_afterRead s a⟩

theorem busFrame_writeByte (s : State) (a : Word) (v : Byte) : BusFrame s (s.writeByte a v) [a] :=
  ⟨onlyStores_writeByte s a v, draws_le_writeByte s a v⟩

theorem busFrame_writeShort (s : State) (a v : Word) : BusFrame s (s.writeShort a v) [a, a + 1] :=
  (busFrame_writeByte s a _).trans (busFrame_writeByte _ _ _)

theorem sub_two_add_one (a : Word) : a - 2 + 1 = a - 1 := by
  bv_omega

theorem busFrame_pushWord (s : State) (v : Word) : BusFrame s (s.pushWord v) (pushAddresses s) := by
  rw [pushAddresses, ← sub_two_add_one]
  exact ((BusFrame.refl s).withRegs _).trans (busFrame_writeShort (s.setSp (s.regs.sp - 2)) _ v)

theorem busFrame_afterPop (s : State) : BusFrame s s.afterPop [] :=
  ((busFrame_afterRead s _).trans (busFrame_afterRead _ _)).withRegs _

/-! ### Operands -/

theorem ofNat_pairValue (s : State) (p : Pair) : BitVec.ofNat 16 (pairValue s p) = s.pair p := by
  rw [← pair_toNat, BitVec.ofNat_toNat, BitVec.setWidth_eq]

theorem hlOf_eq_pair (s : State) : hlOf s = s.pair .hl :=
  ofNat_pairValue s .hl

theorem busFrame_afterOperand (s : State) (o : Operand8) : BusFrame s (s.afterOperand o) [] := by
  cases o with
  | indHl => exact busFrame_afterRead s _
  | _ => exact .refl s

theorem busFrame_writeOperand (s : State) (o : Operand8) (v : Byte) :
    BusFrame s (s.writeOperand o v) (storedBy s o) := by
  cases o with
  | indHl =>
    rw [storedBy, hlOf_eq_pair]
    exact busFrame_writeByte s _ v
  | _ => exact (BusFrame.refl s).withRegs _

end Sys2Proof.Machine
end

section
/-! The statements' operand helpers as the model's operand forms (30_encoding.md R122–R125): the values of operands and
addresses, and the states after reading and writing them. -/

namespace Sys2Proof.Machine

open Sys2Proof.Claims

theorem wordBytes_eq (nn : Word) : wordBytes nn = [loByte nn, hiByte nn] := by
  rw [wordBytes, loByte_eq_ofNat, hiByte_eq_ofNat]

theorem pageFF_eq_highPage (n : Byte) : pageFF n = highPage n := by
  rw [pageFF, highPage, ← ofNat_eq_wordOfBytes]
  rfl

theorem valueOf_eq_operand (s : State) (o : Operand8) : valueOf s o = s.operand o := by
  cases o with
  | indHl => rw [valueOf, hlOf_eq_pair, State.operand]
  | _ => rfl

theorem afterValue_eq_afterOperand (s : State) (o : Operand8) : afterValue s o = s.afterOperand o := by
  cases o with
  | indHl => rw [afterValue, hlOf_eq_pair, State.afterOperand]
  | _ => rfl

theorem putOperand_eq_writeOperand (s : State) (o : Operand8) (v : Byte) : putOperand s o v = s.writeOperand o v := by
  cases o with
  | indHl => rw [putOperand, hlOf_eq_pair, State.writeOperand]
  | _ => rfl

/-- The stored addresses depend on the registers only. -/
theorem storedBy_congr {s t : State} (h : t.regs = s.regs) (o : Operand8) : storedBy t o = storedBy s o := by
  cases o with
  | indHl => rw [storedBy, storedBy, hlOf, hlOf, h]
  | _ => rfl

/-! ### Pairs -/

/-- A pair is written modulo 2^16. -/
theorem setPairTo_mod (r : Regs) (p : Pair) (n : Nat) : setPairTo r p (n % 65536) = setPairTo r p n := by
  have hhi : BitVec.ofNat 8 (n % 65536 / 256) = BitVec.ofNat 8 (n / 256) := by
    apply BitVec.eq_of_toNat_eq
    simp only [BitVec.toNat_ofNat]
    omega
  have hlo : BitVec.ofNat 8 (n % 65536) = BitVec.ofNat 8 n := BitVec.eq_of_toNat_eq (by simp)
  have hsp : BitVec.ofNat 16 (n % 65536) = BitVec.ofNat 16 n := BitVec.eq_of_toNat_eq (by simp)
  cases p <;> simp only [setPairTo, hhi, hlo, hsp]

theorem setPair_ofNat (s : State) (p : Pair) (n : Nat) :
    s.setPair p (BitVec.ofNat 16 n) = { s with regs := setPairTo s.regs p n } := by
  rw [setPair_eq, BitVec.toNat_ofNat, setPairTo_mod]

theorem pair_add_one (s : State) (p : Pair) : s.pair p + 1 = BitVec.ofNat 16 (pairValue s p + 1) := by
  rw [BitVec.ofNat_add, ofNat_pairValue]
  rfl

theorem pair_sub_one (s : State) (p : Pair) : s.pair p - 1 = BitVec.ofNat 16 (pairValue s p + 0xFFFF) := by
  rw [BitVec.ofNat_add, ofNat_pairValue, BitVec.sub_eq_add_neg]
  rfl

/-! ### The stack -/

theorem stackPair_eq (s : State) (p : StackPair) :
    s.stackPair p = wordOfBytes (stackPairBytes s p).2 (stackPairBytes s p).1 := by
  cases p <;> rfl

theorem setStackPair_eq (s : State) (p : StackPair) (v : Word) :
    s.setStackPair p v = { s with regs := setStackPairTo s.regs p (hiByte v) (loByte v) } := by
  cases p <;> rfl

theorem pushed_eq_pushWord (s : State) (hi lo : Byte) : pushed s hi lo = s.pushWord (wordOfBytes lo hi) := by
  rw [State.pushWord, State.writeShort, loByte_wordOfBytes, hiByte_wordOfBytes, sub_two_add_one]
  rfl

theorem popValue_eq (s : State) : s.popValue = wordOfBytes (popLow s) (popHigh s) := rfl

theorem popped_eq_afterPop (s : State) : popped s = s.afterPop := by
  rw [State.afterPop, State.setSp, afterReadShort_regs]
  rfl

end Sys2Proof.Machine
end

section
/-! Loads, stores and stack transfers (40_load.md R160–R184): the bytes, the next state and the frame of each form. -/

namespace Sys2Proof.Machine

open Sys2Proof.Claims

/-! ### Byte loads -/

theorem encode_loadForm (dst r : Operand8) :
    encode (Instr.loadForm dst r) = [0x40 + 8 * registerCode dst + registerCode r] := by
  cases dst <;> cases r <;> rfl

theorem exec_loadForm {dst r : Operand8} (h : dst ≠ .indHl ∨ r ≠ .indHl) (s : State) :
    exec (Instr.loadForm dst r) s = .next (loadOperand dst r s) := by
  cases dst
  case indHl =>
    cases r
    case indHl => simp at h
    all_goals rfl
  all_goals cases r <;> rfl

theorem encode_loadImmForm (n : Byte) (dst : Operand8) :
    encode (Instr.loadImmForm n dst) = [0x06 + 8 * registerCode dst, n] := by
  cases dst <;> rfl

theorem exec_loadImmForm (n : Byte) (dst : Operand8) (s : State) :
    exec (Instr.loadImmForm n dst) s = .next (s.writeOperand dst n) := by
  cases dst <;> rfl

/-- The source is read, then the destination written at the same `hl`. -/
theorem busFrame_loadOperand (dst src : Operand8) (s : State) :
    BusFrame s (loadOperand dst src s) (storedBy s dst) := by
  have hwrite := busFrame_writeOperand (s.afterOperand src) dst (s.operand src)
  rw [storedBy_congr (afterOperand_regs s src)] at hwrite
  exact (busFrame_afterOperand s src).trans hwrite

/-- Settles O35: the operand's read, then its write; registers touch no memory. -/
theorem byteLoadForms : Obligations.ByteLoadForms := by
  intro s dst r n
  rw [putOperand_eq_writeOperand, putOperand_eq_writeOperand, afterValue_eq_afterOperand, valueOf_eq_operand]
  exact ⟨fun h => ⟨encode_loadForm dst r, exec_loadForm h s, (busFrame_loadOperand dst r s).only⟩,
    encode_loadImmForm n dst, exec_loadImmForm n dst s, (busFrame_writeOperand s dst n).only⟩

/-! ### The accumulator -/

theorem loadA_eq (a : Word) (s : State) :
    loadA a s = { s.afterRead a with regs := { s.regs with a := s.readByte a } } := by
  rw [loadA, State.setA, afterRead_regs]

/-- An instruction that loads `a` from an address leaves memory as it was. -/
theorem does_of_exec_loadA {i : Instr} {bytes : List Byte} {s : State} {a : Word} (hbytes : encode i = bytes)
    (hexec : exec i s = .next (loadA a s)) :
    Does i bytes s { s.afterRead a with regs := { s.regs with a := s.readByte a } } [] :=
  ⟨hbytes, loadA_eq a s ▸ hexec, ((busFrame_afterRead s a).withRegs _).only⟩

/-- Settles O36: each address is a pair, an operand or a page offset. -/
theorem accumulatorLoads : Obligations.AccumulatorLoads := by
  intro s n nn
  simp only [ofNat_pairValue, pageFF_eq_highPage, wordBytes_eq]
  exact ⟨does_of_exec_loadA rfl rfl, does_of_exec_loadA rfl rfl, does_of_exec_loadA rfl rfl,
    does_of_exec_loadA rfl rfl, does_of_exec_loadA rfl rfl⟩

theorem does_of_exec_storeA {i : Instr} {bytes : List Byte} {s : State} {a : Word} (hbytes : encode i = bytes)
    (hexec : exec i s = .next (storeA a s)) : Does i bytes s (s.writeByte a s.regs.a) [a] :=
  ⟨hbytes, hexec, onlyStores_writeByte s a s.regs.a⟩

/-- Settles O37: the same addresses, stored to. -/
theorem accumulatorStores : Obligations.AccumulatorStores := by
  intro s n nn
  simp only [ofNat_pairValue, pageFF_eq_highPage, wordBytes_eq]
  exact ⟨does_of_exec_storeA rfl rfl, does_of_exec_storeA rfl rfl, does_of_exec_storeA rfl rfl,
    does_of_exec_storeA rfl rfl, does_of_exec_storeA rfl rfl⟩

theorem storeA_setPair_hl (s : State) (a : Word) (n : Nat) :
    (storeA a s).setPair .hl (BitVec.ofNat 16 n) =
      { s.writeByte a s.regs.a with regs := setPairTo s.regs .hl n } := by
  rw [setPair_ofNat, storeA, writeByte_regs]

theorem loadA_setPair_hl (s : State) (a : Word) (n : Nat) :
    (loadA a s).setPair .hl (BitVec.ofNat 16 n) =
      { s.afterRead a with regs := { setPairTo s.regs .hl n with a := s.readByte a } } := by
  rw [setPair_ofNat, loadA_eq]
  rfl

theorem does_of_exec_storeA_setPair {i : Instr} {bytes : List Byte} {s : State} {v : Word} {n : Nat}
    (hbytes : encode i = bytes) (hv : v = BitVec.ofNat 16 n)
    (hexec : exec i s = .next ((storeA (s.pair .hl) s).setPair .hl v)) :
    Does i bytes s { s.writeByte (hlOf s) s.regs.a with regs := setPairTo s.regs .hl n } [hlOf s] := by
  rw [hv, storeA_setPair_hl, ← hlOf_eq_pair] at hexec
  exact ⟨hbytes, hexec, ((busFrame_writeByte s _ _).withRegs _).only⟩

theorem does_of_exec_loadA_setPair {i : Instr} {bytes : List Byte} {s : State} {v : Word} {n : Nat}
    (hbytes : encode i = bytes) (hv : v = BitVec.ofNat 16 n)
    (hexec : exec i s = .next ((loadA (s.pair .hl) s).setPair .hl v)) :
    Does i bytes s
      { s.afterRead (hlOf s) with regs := { setPairTo s.regs .hl n with a := s.readByte (hlOf s) } } [] := by
  rw [hv, loadA_setPair_hl, ← hlOf_eq_pair] at hexec
  exact ⟨hbytes, hexec, ((busFrame_afterRead s _).withRegs _).only⟩

/-- Settles O38: the transfer at the old `hl`, which is then stepped; a step down adds 0xFFFF modulo 2^16. -/
theorem accumulatorThroughSteppedHl : Obligations.AccumulatorThroughSteppedHl := by
  intro s up down
  exact ⟨does_of_exec_storeA_setPair rfl (pair_add_one s .hl) rfl,
    does_of_exec_storeA_setPair rfl (pair_sub_one s .hl) rfl,
    does_of_exec_loadA_setPair rfl (pair_add_one s .hl) rfl,
    does_of_exec_loadA_setPair rfl (pair_sub_one s .hl) rfl⟩

/-! ### Words and the stack -/

theorem encode_loadPairForm (nn : Word) (p : Pair) :
    encode (Instr.loadPairForm nn p) = (0x01 + 16 * pairCode p) :: wordBytes nn := by
  rw [wordBytes_eq]
  cases p <;> rfl

theorem exec_loadPairForm (nn : Word) (p : Pair) (s : State) :
    exec (Instr.loadPairForm nn p) s = .next (s.setPair p nn) := by
  cases p <;> rfl

theorem encode_ldIndNnSp (nn : Word) : encode (.ldIndNnSp nn) = 0x08 :: wordBytes nn := by
  rw [wordBytes_eq]
  rfl

/-- Settles O39: a pair's write, a word's two stores, and a copy of a register. -/
theorem wordLoads : Obligations.WordLoads := by
  intro s nn
  rw [← writeShort_eq, hlOf_eq_pair]
  refine ⟨fun p => ?_, ⟨encode_ldIndNnSp nn, rfl, (busFrame_writeShort s nn s.regs.sp).only⟩,
    rfl, rfl, ((BusFrame.refl s).withRegs _).only⟩
  exact ⟨encode_loadPairForm nn p, by rw [exec_loadPairForm, setPair_eq], ((BusFrame.refl s).withRegs _).only⟩

theorem encode_pushForm (p : StackPair) : encode (Instr.pushForm p) = [0xC5 + 16 * stackPairCode p] := by
  cases p <;> rfl

theorem exec_pushForm (p : StackPair) (s : State) :
    exec (Instr.pushForm p) s = .next (s.pushWord (s.stackPair p)) := by
  cases p <;> rfl

/-- Settles O40: a push of the word of the pair's two bytes. -/
theorem pushStoresAPair : Obligations.PushStoresAPair := by
  intro s p
  rw [pushed_eq_pushWord, ← stackPair_eq]
  exact ⟨encode_pushForm p, exec_pushForm p s, (busFrame_pushWord s _).only⟩

theorem encode_popForm (p : StackPair) : encode (Instr.popForm p) = [0xC1 + 16 * stackPairCode p] := by
  cases p <;> rfl

theorem exec_popForm (p : StackPair) (s : State) : exec (Instr.popForm p) s = .next (popTo p s) := by
  cases p <;> rfl

theorem popTo_eq (p : StackPair) (s : State) :
    popTo p s = { popped s with regs := setStackPairTo (popped s).regs p (popHigh s) (popLow s) } := by
  rw [popTo, setStackPair_eq, popValue_eq, hiByte_wordOfBytes, loByte_wordOfBytes, popped_eq_afterPop]

/-- Settles O41: the popped word's bytes go to the pair; the two reads store nothing. -/
theorem popLoadsAPair : Obligations.PopLoadsAPair := by
  intro s p
  refine ⟨encode_popForm p, (exec_popForm p s).trans (congrArg _ (popTo_eq p s)), ?_⟩
  rw [popped_eq_afterPop]
  exact ((busFrame_afterPop s).withRegs _).only

end Sys2Proof.Machine
end

section
/-! Results and flags of 8-bit arithmetic (41_alu8.md R200–R204): the statements' natural-number arithmetic as the model's
helpers. -/

namespace Sys2Proof.Machine

open Sys2Proof.Claims

/-! ### Bytes -/

theorem packFlags_eq_flagByte (fl : FlagBits) : packFlags fl = flagByte fl.z fl.n fl.h fl.c := by
  obtain ⟨z, n, h, c⟩ := fl
  cases z <;> cases n <;> cases h <;> cases c <;> rfl

theorem toNat_and_low (x : Byte) : (x &&& 0x0F).toNat = x.toNat % 16 := by
  rw [BitVec.toNat_and]
  exact Nat.and_two_pow_sub_one_eq_mod x.toNat 4

theorem byte_eq_zero_iff (x : Byte) : x = 0 ↔ x.toNat = 0 :=
  BitVec.toNat_inj.symm

theorem ofNat_byte_eq_zero_iff (n : Nat) : BitVec.ofNat 8 n = 0 ↔ n % 256 = 0 := by
  rw [byte_eq_zero_iff, BitVec.toNat_ofNat]

theorem ofInt_byte_eq_zero_iff (k : Int) : BitVec.ofInt 8 k = 0 ↔ k % 256 = 0 := by
  rw [byte_eq_zero_iff, BitVec.toNat_ofInt]
  omega

theorem byte_add_ofNat (a : Byte) (n : Nat) : a + BitVec.ofNat 8 n = BitVec.ofNat 8 (a.toNat + n) := by
  rw [BitVec.ofNat_add, BitVec.ofNat_toNat, BitVec.setWidth_eq]

/-! ### What an operation leaves -/

/-- What an operation on `a` leaves of `s`, its operand's read being done in `u`: the result in `a`, the flags in `f`. -/
def afterAlu (s u : State) (out : AluOut) : State :=
  { u with regs := { s.regs with a := out.result, f := packFlags out.flags } }

theorem afterAlu_flags (s u : State) (out : AluOut) : (afterAlu s u out).flags = out.flags :=
  flagsOfByte_packFlags out.flags

theorem setA_setFlags_eq_afterAlu {s u : State} (h : u.regs = s.regs) (out : AluOut) :
    (u.setA out.result).setFlags out.flags = afterAlu s u out := by
  rw [afterAlu, State.setFlags, State.setF, packFlags_and_high, State.setA, h]

theorem setFlags_eq (s : State) (fl : FlagBits) :
    s.setFlags fl = { s with regs := { s.regs with f := flagByte fl.z fl.n fl.h fl.c } } := by
  rw [State.setFlags, State.setF, packFlags_and_high, packFlags_eq_flagByte]

theorem busFrame_afterAlu {s u : State} {stored : List Word} (h : BusFrame s u stored) (out : AluOut) :
    BusFrame s (afterAlu s u out) stored :=
  h.withRegs _

theorem alu_eq_afterAlu (op : AluOp) (v : Byte) (s : State) :
    alu op v s = afterAlu s s (aluOut op s.regs.a v s.flags.c) :=
  setA_setFlags_eq_afterAlu rfl _

theorem aluOperand_eq_afterAlu (op : AluOp) (o : Operand8) (s : State) :
    aluOperand op o s = afterAlu s (s.afterOperand o) (aluOut op s.regs.a (s.operand o) s.flags.c) := by
  have hregs := afterOperand_regs s o
  rw [aluOperand, alu, State.flags, hregs]
  exact setA_setFlags_eq_afterAlu hregs _

/-! ### The statements' results as the model's -/

theorem added_eq_afterAlu (s u : State) (v : Byte) (cin : Bool) :
    added s u v cin.toNat = afterAlu s u (add8 s.regs.a v cin) := by
  simp only [added, afterAlu, add8, packFlags_eq_flagByte, ofNat_byte_eq_zero_iff, toNat_and_low, gt_iff_lt]

theorem subtractFlags_eq_packFlags (a v : Byte) (bin : Bool) :
    subtractFlags a.toNat v.toNat bin.toNat = packFlags (sub8 a v bin).flags := by
  simp only [subtractFlags, sub8, packFlags_eq_flagByte, ofInt_byte_eq_zero_iff, toNat_and_low]

theorem subtracted_eq_afterAlu (s u : State) (v : Byte) (bin : Bool) :
    subtracted s u v bin.toNat = afterAlu s u (sub8 s.regs.a v bin) := by
  rw [subtracted, subtractFlags_eq_packFlags]
  rfl

theorem compared_eq_afterAlu (s u : State) (v : Byte) : compared s u v = afterAlu s u (cp8 s.regs.a v) := by
  have hflags := subtractFlags_eq_packFlags s.regs.a v false
  rw [Bool.toNat_false] at hflags
  rw [compared, hflags]
  rfl

/-- AND, XOR and OR leave their result with Z from it, H as the operation sets it, N and C clear. -/
theorem logical_eq_afterAlu (s u : State) (result : Byte) (h : Bool) :
    logical s u result h =
      afterAlu s u { result := result, flags := { z := result = 0, n := false, h := h, c := false } } := by
  simp only [logical, afterAlu, packFlags_eq_flagByte, byte_eq_zero_iff]

end Sys2Proof.Machine
end

section
/-! The accumulator operations (41_alu8.md R207–R230): the bytes, the next state and the frame of each form. -/

namespace Sys2Proof.Machine

open Sys2Proof.Claims

/-- Bytes that decode with nothing left are the encoding. -/
theorem encode_of_decode {bytes : List Byte} {i : Instr} (h : decode bytes = .ok (i, [])) : encode i = bytes := by
  obtain ⟨-, hbytes⟩ := encodeOfDecodeIsTheBytes bytes [] i h
  rw [hbytes, List.append_nil]

theorem exec_aluForm (op : AluOp) (o : Operand8) (s : State) :
    exec (Instr.aluForm op o) s = .next (aluOperand op o s) := by
  cases op <;> cases o <;> rfl

theorem exec_aluImmForm (op : AluOp) (n : Byte) (s : State) : exec (Instr.aluImmForm n op) s = .next (alu op n s) := by
  cases op <;> rfl

/-- Every accumulator operation on r or (HL): the operand's read, then the result. -/
theorem does_aluForm (op : AluOp) (s : State) (r : Operand8) :
    Does (Instr.aluForm op r) [0x80 + 8 * op.code + registerCode r] s
      (afterAlu s (afterValue s r) (aluOut op s.regs.a (valueOf s r) s.flags.c)) [] := by
  rw [afterValue_eq_afterOperand, valueOf_eq_operand, ← aluOperand_eq_afterAlu]
  refine ⟨encode_of_decode (decode_aluForm op r), exec_aluForm op r s, ?_⟩
  rw [aluOperand_eq_afterAlu]
  exact (busFrame_afterAlu (busFrame_afterOperand s r) _).only

theorem does_aluImmForm (op : AluOp) (s : State) (n : Byte) :
    Does (Instr.aluImmForm n op) [0xC6 + 8 * op.code, n] s
      (afterAlu s s (aluOut op s.regs.a n s.flags.c)) [] := by
  rw [← alu_eq_afterAlu]
  refine ⟨encode_of_decode (decode_aluImmForm op n), exec_aluImmForm op n s, ?_⟩
  rw [alu_eq_afterAlu]
  exact (busFrame_afterAlu (.refl s) _).only

/-- Settles O42: ADD is `add8` without a carry in, ADC with flag C. -/
theorem addAndAdcForms : Obligations.AddAndAdcForms := by
  intro s r n
  have hadd (u : State) (v : Byte) : added s u v 0 = afterAlu s u (add8 s.regs.a v false) :=
    added_eq_afterAlu s u v false
  have hadc (u : State) (v : Byte) : added s u v (carryIn s) = afterAlu s u (add8 s.regs.a v s.flags.c) :=
    added_eq_afterAlu s u v s.flags.c
  simp only [hadd, hadc]
  exact ⟨does_aluForm .add s r, does_aluImmForm .add s n, does_aluForm .adc s r, does_aluImmForm .adc s n⟩

/-- Settles O43: SUB is `sub8` without a borrow in, SBC with flag C, and CP is SUB's flags alone. -/
theorem subSbcAndCpForms : Obligations.SubSbcAndCpForms := by
  intro s r n
  have hsub (u : State) (v : Byte) : subtracted s u v 0 = afterAlu s u (sub8 s.regs.a v false) :=
    subtracted_eq_afterAlu s u v false
  have hsbc (u : State) (v : Byte) : subtracted s u v (carryIn s) = afterAlu s u (sub8 s.regs.a v s.flags.c) :=
    subtracted_eq_afterAlu s u v s.flags.c
  simp only [hsub, hsbc, compared_eq_afterAlu]
  exact ⟨does_aluForm .sub s r, does_aluImmForm .sub s n, does_aluForm .sbc s r, does_aluImmForm .sbc s n,
    does_aluForm .cp s r, does_aluImmForm .cp s n⟩

/-- Settles O44: the three logical operations differ in the result and in H. -/
theorem logicForms : Obligations.LogicForms := by
  intro s r n
  simp only [logical_eq_afterAlu]
  exact ⟨does_aluForm .and s r, does_aluImmForm .and s n, does_aluForm .xor s r, does_aluImmForm .xor s n,
    does_aluForm .or s r, does_aluImmForm .or s n⟩

end Sys2Proof.Machine
end

section
/-! INC and DEC (41_alu8.md R205, R206, R231–R234): the operand read, the flags and the result written to it. -/

namespace Sys2Proof.Machine

open Sys2Proof.Claims

/-- `inc8` on natural numbers. -/
theorem inc8_eq (v : Byte) (c : Bool) :
    inc8 v c =
      { result := BitVec.ofNat 8 (v.toNat + 1)
        flags := { z := decide ((v.toNat + 1) % 256 = 0), n := false, h := decide (v.toNat % 16 = 15), c := c } } := by
  have hresult : v + 1 = BitVec.ofNat 8 (v.toNat + 1) := byte_add_ofNat v 1
  have hnibble : v &&& 0x0F = 0x0F ↔ v.toNat % 16 = 15 := by
    rw [← BitVec.toNat_inj, toNat_and_low]
    rfl
  simp only [inc8, hresult, ofNat_byte_eq_zero_iff, hnibble]

/-- `dec8` on natural numbers: subtracting 1 adds 255. -/
theorem dec8_eq (v : Byte) (c : Bool) :
    dec8 v c =
      { result := BitVec.ofNat 8 (v.toNat + 255)
        flags := { z := decide (v.toNat = 1), n := true, h := decide (v.toNat % 16 = 0), c := c } } := by
  have hresult : v - 1 = BitVec.ofNat 8 (v.toNat + 255) :=
    (BitVec.sub_eq_add_neg v 1).trans (byte_add_ofNat v 255)
  have hzero : (v.toNat + 255) % 256 = 0 ↔ v.toNat = 1 := by
    have := v.isLt
    omega
  have hnibble : v &&& 0x0F = 0x00 ↔ v.toNat % 16 = 0 := by
    rw [← toNat_and_low]
    exact byte_eq_zero_iff _
  simp only [dec8, hresult, ofNat_byte_eq_zero_iff, hzero, hnibble]

theorem afterOperand_setFlags_eq (s : State) (o : Operand8) (fl : FlagBits) :
    (s.afterOperand o).setFlags fl =
      { s.afterOperand o with regs := { s.regs with f := flagByte fl.z fl.n fl.h fl.c } } := by
  rw [setFlags_eq, afterOperand_regs]

/-- The operand is read and written at one `hl`: writing the flags leaves it. -/
theorem busFrame_setFlags_writeOperand (s : State) (o : Operand8) (fl : FlagBits) (v : Byte) :
    BusFrame s (((s.afterOperand o).setFlags fl).writeOperand o v) (storedBy s o) := by
  have hread : BusFrame s ((s.afterOperand o).setFlags fl) [] := (busFrame_afterOperand s o).withRegs _
  have hstored : storedBy ((s.afterOperand o).setFlags fl) o = storedBy s o := by
    rw [afterOperand_setFlags_eq]
    cases o <;> rfl
  have hwrite := busFrame_writeOperand ((s.afterOperand o).setFlags fl) o v
  rw [hstored] at hwrite
  exact hread.trans hwrite

theorem incOperand_eq_incremented (s : State) (o : Operand8) : incOperand o s = incremented s o := by
  rw [incOperand, inc8_eq, afterOperand_setFlags_eq, incremented, valueOf_eq_operand, afterValue_eq_afterOperand,
    putOperand_eq_writeOperand]
  rfl

theorem decOperand_eq_decremented (s : State) (o : Operand8) : decOperand o s = decremented s o := by
  rw [decOperand, dec8_eq, afterOperand_setFlags_eq, decremented, valueOf_eq_operand, afterValue_eq_afterOperand,
    putOperand_eq_writeOperand]
  rfl

theorem exec_incForm (o : Operand8) (s : State) : exec (Instr.incForm o) s = .next (incOperand o s) := by
  cases o <;> rfl

theorem exec_decForm (o : Operand8) (s : State) : exec (Instr.decForm o) s = .next (decOperand o s) := by
  cases o <;> rfl

/-- Settles O45: both are an operand's read, then a write of the result, with C passed through. -/
theorem incrementAndDecrementForms : Obligations.IncrementAndDecrementForms := by
  intro s r
  obtain ⟨hinc, hdec, -⟩ := decode_operandForms r 0
  rw [← incOperand_eq_incremented, ← decOperand_eq_decremented]
  exact ⟨⟨encode_of_decode hinc, exec_incForm r s, (busFrame_setFlags_writeOperand s r _ _).only⟩,
    encode_of_decode hdec, exec_decForm r s, (busFrame_setFlags_writeOperand s r _ _).only⟩

end Sys2Proof.Machine
end

section
/-! DAA, CPL, SCF and CCF (41_alu8.md R235–R238). -/

namespace Sys2Proof.Machine

open Sys2Proof.Claims

/-- An adjustment adds its amount or 0. -/
theorem ite_ofNat_add (p : Prop) [Decidable p] (n : Nat) (k : Byte) :
    (if p then BitVec.ofNat 8 n + k else BitVec.ofNat 8 n) = BitVec.ofNat 8 (n + if p then k.toNat else 0) := by
  split
  · rw [BitVec.ofNat_add, BitVec.ofNat_toNat, BitVec.setWidth_eq]
  · rfl

theorem ite_ofNat_sub (p : Prop) [Decidable p] (n : Nat) (k : Byte) :
    (if p then BitVec.ofNat 8 n - k else BitVec.ofNat 8 n) = BitVec.ofNat 8 (n + if p then (-k).toNat else 0) := by
  rw [BitVec.sub_eq_add_neg]
  exact ite_ofNat_add p n (-k)

theorem ofNat_byte_mod (n : Nat) : BitVec.ofNat 8 (n % 256) = BitVec.ofNat 8 n :=
  BitVec.eq_of_toNat_eq (by simp)

/-- Adding 0x60 leaves the low nibble: so DAA's second test may read `a` before or after the first adjustment (R235). -/
theorem toNat_and_low_add_0x60 (n : Nat) (p : Prop) [Decidable p] :
    (BitVec.ofNat 8 (n + if p then (0x60 : Byte).toNat else 0) &&& 0x0F).toNat = n % 16 := by
  have h0x60 : (0x60 : Byte).toNat = 16 * 6 := rfl
  rw [toNat_and_low, BitVec.toNat_ofNat, h0x60]
  split <;> omega

/-- DAA in natural numbers: after a subtraction the amounts are subtracted, after an addition they are added. -/
theorem daa_eq (a : Byte) (fl : FlagBits) :
    daa a fl =
      { result := BitVec.ofNat 8 (decimalAdjusted a.toNat fl.n fl.h fl.c).1
        flags :=
          { z := decide ((decimalAdjusted a.toNat fl.n fl.h fl.c).1 = 0), n := fl.n, h := false
            c := (decimalAdjusted a.toNat fl.n fl.h fl.c).2 } } := by
  obtain ⟨n, hn, rfl⟩ : ∃ n, n % 256 = n ∧ a = BitVec.ofNat 8 n := ⟨a.toNat, Nat.mod_eq_of_lt a.isLt, by simp⟩
  obtain ⟨z, subtracting, h, c⟩ := fl
  cases subtracting with
  | true =>
    simp only [daa, decimalAdjusted, if_true, ite_ofNat_sub, ofNat_byte_eq_zero_iff, ofNat_byte_mod,
      BitVec.toNat_ofNat, hn]
    rfl
  | false =>
    simp only [daa, decimalAdjusted, Bool.false_eq_true, if_false, ite_ofNat_add, toNat_and_low_add_0x60,
      ofNat_byte_eq_zero_iff, ofNat_byte_mod, BitVec.toNat_ofNat, hn]
    rfl

theorem decimalAdjust_eq (s : State) : decimalAdjust s = afterAlu s s (daa s.regs.a s.flags) :=
  setA_setFlags_eq_afterAlu rfl _

theorem complementA_eq (s : State) : complementA s = afterAlu s s (cpl s.regs.a s.flags) :=
  setA_setFlags_eq_afterAlu rfl _

theorem not_eq_ofNat (a : Byte) : ~~~a = BitVec.ofNat 8 (255 - a.toNat) := by
  apply BitVec.eq_of_toNat_eq
  have := a.isLt
  rw [BitVec.toNat_not, BitVec.toNat_ofNat]
  omega

/-- An instruction that writes registers only. -/
theorem does_of_exec_withRegs {i : Instr} {bytes : List Byte} {s t : State} {regs : Regs} (hbytes : encode i = bytes)
    (hexec : exec i s = .next t) (ht : t = { s with regs := regs }) : Does i bytes s { s with regs := regs } [] :=
  ⟨hbytes, ht ▸ hexec, ((BusFrame.refl s).withRegs regs).only⟩

/-- Settles O46: each writes `a` or `f` only, the kept flags with their old values. -/
theorem accumulatorAndFlagOperations : Obligations.AccumulatorAndFlagOperations := by
  intro s d
  refine ⟨does_of_exec_withRegs rfl rfl ?_, does_of_exec_withRegs rfl rfl ?_,
    does_of_exec_withRegs rfl rfl (setFlags_eq s _), does_of_exec_withRegs rfl rfl (setFlags_eq s _)⟩
  · rw [decimalAdjust_eq, daa_eq, afterAlu, packFlags_eq_flagByte]
    rfl
  · rw [complementA_eq, cpl, not_eq_ofNat, afterAlu, packFlags_eq_flagByte]
    rfl

end Sys2Proof.Machine
end

section
/-! DAA after ADD and SUB (41_alu8.md R235): on packed decimal digits the two tests of the pseudocode are the decimal carries
of the two digits. -/

namespace Sys2Proof.Machine

open Sys2Proof.Claims

/-! ### Packed digits -/

/-- The two decimal digits of a number below 100, one per nibble: `bcd` as a natural number. -/
def packedDigits (x : Nat) : Nat := 16 * (x / 10) + x % 10

theorem bcd_eq (x : Nat) : bcd x = BitVec.ofNat 8 (packedDigits x) := rfl

theorem packedDigits_lt {x : Nat} (h : x < 100) : packedDigits x < 256 := by
  unfold packedDigits
  omega

theorem bcd_toNat {x : Nat} (h : x < 100) : (bcd x).toNat = packedDigits x := by
  rw [bcd_eq, BitVec.toNat_ofNat, Nat.mod_eq_of_lt (packedDigits_lt h)]

theorem packedDigits_add_gt_iff (x y : Nat) :
    packedDigits x + packedDigits y > 0x99 ↔ 100 ≤ x + y := by
  have htens : 100 ≤ x + y ∨ x / 10 + y / 10 ≤ 9 := by omega
  unfold packedDigits
  omega

/-- The tests of the high digit: the sum passes 0x99, with or without a carry out of the byte, exactly from 100 on. -/
theorem high_digit_test (x y : Nat) :
    (decide (packedDigits x + packedDigits y > 255) || decide ((packedDigits x + packedDigits y) % 256 > 0x99)) =
      decide (100 ≤ x + y) := by
  have hsum := packedDigits_add_gt_iff x y
  rw [← Bool.decide_or, decide_eq_decide]
  omega

/-- The tests of the low digit: half carry or a low nibble above 9 exactly when the units carry. -/
theorem low_digit_test (x y : Nat) :
    (decide (packedDigits x % 16 + packedDigits y % 16 > 15) ||
        decide ((packedDigits x + packedDigits y) % 256 % 16 > 9)) =
      decide (10 ≤ x % 10 + y % 10) := by
  unfold packedDigits
  rw [← Bool.decide_or, decide_eq_decide]
  omega

theorem decimalAdjusted_add {x y : Nat} (hx : x < 100) (hy : y < 100) :
    decimalAdjusted ((packedDigits x + packedDigits y) % 256) false
        (decide (packedDigits x % 16 + packedDigits y % 16 > 15)) (decide (packedDigits x + packedDigits y > 255)) =
      (packedDigits ((x + y) % 100), decide (100 ≤ x + y)) := by
  simp only [decimalAdjusted, Bool.false_eq_true, if_false, high_digit_test, low_digit_test, decide_eq_true_eq]
  unfold packedDigits
  congr 1
  split <;> split <;> omega

theorem decimalAdjusted_sub {x y : Nat} (hx : x < 100) (hy : y < 100) :
    decimalAdjusted ((256 + packedDigits x - packedDigits y) % 256) true
        (decide (packedDigits x % 16 < packedDigits y % 16)) (decide (packedDigits x < packedDigits y)) =
      (packedDigits ((x + 100 - y) % 100), decide (x < y)) := by
  have hborrow : packedDigits x < packedDigits y ↔ x < y := by
    unfold packedDigits
    omega
  have hhalf : packedDigits x % 16 < packedDigits y % 16 ↔ x % 10 < y % 10 := by
    unfold packedDigits
    omega
  simp only [decimalAdjusted, if_true, hborrow, hhalf, decide_eq_true_eq]
  unfold packedDigits
  congr 1
  split <;> split <;> omega

/-! ### ADD or SUB, then DAA -/

theorem daa_add8_bcd {x y : Nat} (hx : x < 100) (hy : y < 100) {sum : AluOut}
    (hsum : sum = add8 (bcd x) (bcd y) false) :
    (daa sum.result sum.flags).result = bcd ((x + y) % 100) ∧
      (daa sum.result sum.flags).flags.c = decide (100 ≤ x + y) := by
  have hadjusted : decimalAdjusted sum.result.toNat sum.flags.n sum.flags.h sum.flags.c =
      (packedDigits ((x + y) % 100), decide (100 ≤ x + y)) := by
    rw [← decimalAdjusted_add hx hy, hsum]
    simp only [add8, toNat_and_low, bcd_toNat hx, bcd_toNat hy, BitVec.toNat_ofNat]
    rfl
  rw [daa_eq, hadjusted]
  exact ⟨rfl, rfl⟩

theorem daa_sub8_bcd {x y : Nat} (hx : x < 100) (hy : y < 100) {diff : AluOut}
    (hdiff : diff = sub8 (bcd x) (bcd y) false) :
    (daa diff.result diff.flags).result = bcd ((x + 100 - y) % 100) ∧
      (daa diff.result diff.flags).flags.c = decide (x < y) := by
  have hadjusted : decimalAdjusted diff.result.toNat diff.flags.n diff.flags.h diff.flags.c =
      (packedDigits ((x + 100 - y) % 100), decide (x < y)) := by
    have hmod : (((packedDigits x : Int) - packedDigits y - (false.toNat : Nat)) % (2 ^ 8 : Nat)).toNat =
        (256 + packedDigits x - packedDigits y) % 256 := by
      have hxb := packedDigits_lt hx
      have hyb := packedDigits_lt hy
      simp only [Bool.toNat_false]
      omega
    rw [← decimalAdjusted_sub hx hy, hdiff]
    simp only [sub8, toNat_and_low, bcd_toNat hx, bcd_toNat hy, BitVec.toNat_ofInt, hmod]
    rfl
  rw [daa_eq, hadjusted]
  exact ⟨rfl, rfl⟩

/-- DAA after an accumulator operation reads its result and flags. -/
theorem exec_aluImmForm_then_daa (op : AluOp) (n : Byte) (s : State) {out : AluOut}
    (hout : out = aluOut op s.regs.a n s.flags.c) :
    ∃ t u, exec (Instr.aluImmForm n op) s = .next t ∧ exec .daa t = .next u ∧
      u.regs.a = (daa out.result out.flags).result ∧ cOf u = (daa out.result out.flags).flags.c := by
  refine ⟨afterAlu s s out, _, by rw [exec_aluImmForm, alu_eq_afterAlu, hout], rfl, ?_⟩
  rw [decimalAdjust_eq, afterAlu_flags]
  exact ⟨rfl, congrArg FlagBits.c (afterAlu_flags _ _ _)⟩

/-- Settles O47: DAA after `add8` and after `sub8` on packed digits. -/
theorem daaMakesArithmeticDecimal : Obligations.DaaMakesArithmeticDecimal := by
  intro s x y hx hy ha
  constructor
  · obtain ⟨t, u, ht, hu, hresult, hcarry⟩ := exec_aluImmForm_then_daa .add (bcd y) s rfl
    obtain ⟨hdigits, hdecimal⟩ := daa_add8_bcd hx hy (congrArg (add8 · (bcd y) false) ha)
    exact ⟨t, u, ht, hu, hresult.trans hdigits, hcarry.trans hdecimal⟩
  · obtain ⟨t, u, ht, hu, hresult, hcarry⟩ := exec_aluImmForm_then_daa .sub (bcd y) s rfl
    obtain ⟨hdigits, hborrow⟩ := daa_sub8_bcd hx hy (congrArg (sub8 · (bcd y) false) ha)
    exact ⟨t, u, ht, hu, hresult.trans hdigits, hcarry.trans hborrow⟩

end Sys2Proof.Machine
end

section
/-! 16-bit arithmetic (42_alu16.md R250–R254): pairs and displacements modulo 2^16; every form writes registers only. -/

namespace Sys2Proof.Machine

open Sys2Proof.Claims

/-- Masking with `k` ones is the remainder modulo `2^k`. -/
theorem toNat_and_ones {m : Word} {k : Nat} (hm : m.toNat = 2 ^ k - 1) (v : Word) :
    (v &&& m).toNat = v.toNat % 2 ^ k := by
  rw [BitVec.toNat_and, hm, Nat.and_two_pow_sub_one_eq_mod]

/-! ### INC and DEC -/

theorem incPair_eq (s : State) (p : Pair) :
    incPair p s = { s with regs := setPairTo s.regs p ((pairValue s p + 1) % 65536) } := by
  rw [incPair, pair_add_one, setPair_ofNat, setPairTo_mod]

theorem decPair_eq (s : State) (p : Pair) :
    decPair p s = { s with regs := setPairTo s.regs p ((pairValue s p + 65535) % 65536) } := by
  rw [decPair, pair_sub_one, setPair_ofNat, setPairTo_mod]

theorem exec_incPairForm (p : Pair) (s : State) : exec (Instr.incPairForm p) s = .next (incPair p s) := by
  cases p <;> rfl

theorem exec_decPairForm (p : Pair) (s : State) : exec (Instr.decPairForm p) s = .next (decPair p s) := by
  cases p <;> rfl

/-- Settles O48: subtracting 1 adds 65535 modulo 2^16. -/
theorem pairIncrementAndDecrement : Obligations.PairIncrementAndDecrement := by
  intro s p
  obtain ⟨-, hinc, hdec, -⟩ := decode_pairForms p 0 0
  exact ⟨does_of_exec_withRegs (encode_of_decode hinc) (exec_incPairForm p s) (incPair_eq s p),
    does_of_exec_withRegs (encode_of_decode hdec) (exec_decPairForm p s) (decPair_eq s p)⟩

/-! ### ADD HL,rr -/

theorem pair_add_pair (s : State) (p q : Pair) :
    s.pair p + s.pair q = BitVec.ofNat 16 (pairValue s p + pairValue s q) := by
  rw [BitVec.ofNat_add, ofNat_pairValue, ofNat_pairValue]

/-- The flags of ADD HL,rr on natural numbers; Z is the old one. -/
theorem addHlFlags_eq (s : State) (p : Pair) :
    addHlFlags (s.pair .hl) (s.pair p) s.flags =
      { z := zOf s
        n := false
        h := decide (pairValue s .hl % 4096 + pairValue s p % 4096 > 4095)
        c := decide (pairValue s .hl + pairValue s p > 65535) } := by
  have hlow (v : Word) : (v &&& 0x0FFF).toNat = v.toNat % 4096 := toNat_and_ones (k := 12) rfl v
  simp only [addHlFlags, hlow, pair_toNat]
  rfl

theorem exec_addHlForm (p : Pair) (s : State) : exec (Instr.addHlForm p) s = .next (addHlPair p s) := by
  cases p <;> rfl

/-- Settles O49: both summands are read before `f` and `hl` are written. -/
theorem addHlForms : Obligations.AddHlForms := by
  intro s p sum f
  obtain ⟨-, -, -, hdecode⟩ := decode_pairForms p 0 0
  have hadd : addHlPair p s = { s with regs := setPairTo { s.regs with f := f } .hl (sum % 65536) } := by
    rw [addHlPair, addHlFlags_eq, setFlags_eq, pair_add_pair, setPair_ofNat, setPairTo_mod]
  exact does_of_exec_withRegs (encode_of_decode hdecode) (exec_addHlForm p s) hadd

/-! ### ADD SP,e and LD HL,SP+e -/

theorem signed_eq_toInt (e : Byte) : signed e = e.toInt := by
  rw [signed, BitVec.toInt_eq_toNat_cond]
  split <;> split <;> omega

/-- A sign-extended displacement is added as the signed integer it stands for (00_scope.md R16). -/
theorem add_signExtend16 (v : Word) (e : Byte) :
    v + signExtend16 e = BitVec.ofInt 16 ((v.toNat : Int) + signed e) := by
  rw [BitVec.ofInt_add, BitVec.ofInt_natCast, BitVec.ofNat_toNat, BitVec.setWidth_eq, signed_eq_toInt]
  rfl

theorem addSpFlags_eq (sp : Word) (e : Byte) :
    addSpFlags sp e =
      { z := false
        n := false
        h := decide (sp.toNat % 16 + e.toNat % 16 > 15)
        c := decide (sp.toNat % 256 + e.toNat > 255) } := by
  have hnibble : (sp &&& 0x0F).toNat = sp.toNat % 16 := toNat_and_ones (k := 4) rfl sp
  have hbyte : (sp &&& 0xFF).toNat = sp.toNat % 256 := toNat_and_ones (k := 8) rfl sp
  rw [addSpFlags, hnibble, hbyte, toNat_and_low]

/-- Settles O50: one sum and one set of flags, written to `sp` or to `hl`. -/
theorem stackPointerOffsets : Obligations.StackPointerOffsets := by
  intro s e f target
  have hflags : s.setFlags (addSpFlags s.regs.sp e) = { s with regs := { s.regs with f := f } } := by
    rw [addSpFlags_eq, setFlags_eq]
  have htarget : s.regs.sp + signExtend16 e = target := add_signExtend16 s.regs.sp e
  have hadd : addSpOffset e s = { s with regs := { s.regs with f := f, sp := target } } := by
    rw [addSpOffset, hflags, htarget]
    rfl
  have hload : loadHlSpOffset e s = { s with regs := setPairTo { s.regs with f := f } .hl target.toNat } := by
    rw [loadHlSpOffset, hflags, htarget, setPair_eq]
  exact ⟨does_of_exec_withRegs rfl rfl hadd, does_of_exec_withRegs rfl rfl hload⟩

end Sys2Proof.Machine
end

section
/-! Results of rotates, shifts and bit operations (43_rotate_shift_bit.md R270–R297): the model's bit operations as the
statements' natural-number arithmetic. -/

namespace Sys2Proof.Machine

open Sys2Proof.Claims

/-! ### Shifts -/

theorem getLsbD_seven (v : Byte) : v.getLsbD 7 = decide (v.toNat ≥ 128) :=
  (BitVec.msb_eq_getLsbD_last v).symm.trans (BitVec.msb_eq_decide v)

theorem getLsbD_zero (v : Byte) : v.getLsbD 0 = decide (v.toNat % 2 = 1) :=
  Nat.testBit_zero v.toNat

theorem getLsbD_seven_toNat (v : Byte) : (v.getLsbD 7).toNat = v.toNat / 128 := by
  have hbit : (v.getLsbD 7).toNat = v.toNat / 2 ^ 7 % 2 := Nat.toNat_testBit v.toNat 7
  have := v.isLt
  omega

theorem getLsbD_zero_toNat (v : Byte) : (v.getLsbD 0).toNat = v.toNat % 2 := by
  have hbit : (v.getLsbD 0).toNat = v.toNat / 2 ^ 0 % 2 := Nat.toNat_testBit v.toNat 0
  omega

theorem bitAt_zero_toNat (b : Bool) : (bitAt b 0).toNat = b.toNat := by
  cases b <;> rfl

theorem bitAt_seven_toNat (b : Bool) : (bitAt b 7).toNat = 128 * b.toNat := by
  cases b <;> rfl

/-- Two bytes whose bits meet at position `k` and do not overlap: their union is their sum. -/
theorem toNat_or_eq_add {x y : Byte} (k a : Nat) (hx : x.toNat = 2 ^ k * a) (hy : y.toNat < 2 ^ k) :
    (x ||| y).toNat = x.toNat + y.toNat := by
  rw [BitVec.toNat_or, hx, Nat.two_pow_add_eq_or_of_lt hy]

theorem shiftLeft_one_toNat (v : Byte) : (v <<< 1).toNat = 2 * v.toNat % 256 := by
  rw [BitVec.toNat_shiftLeft, Nat.shiftLeft_eq, Nat.mul_comm]

theorem shiftRight_one_toNat (v : Byte) : (v >>> 1).toNat = v.toNat / 2 := by
  rw [BitVec.toNat_ushiftRight, Nat.shiftRight_eq_div_pow]

/-- A left shift takes a bit in at position 0. -/
theorem shiftLeft_one_or_bitAt_toNat (v : Byte) (b : Bool) :
    ((v <<< 1) ||| bitAt b 0).toNat = 2 * v.toNat % 256 + b.toNat := by
  have hv : (v <<< 1).toNat = 2 ^ 1 * (v.toNat % 128) := by
    rw [shiftLeft_one_toNat]
    omega
  have hb : (bitAt b 0).toNat < 2 ^ 1 := bitAt_zero_toNat b ▸ b.toNat_lt
  rw [toNat_or_eq_add 1 _ hv hb, shiftLeft_one_toNat, bitAt_zero_toNat]

/-- A right shift takes a bit in at position 7, given as a byte of that bit alone. -/
theorem shiftRight_one_or_toNat (v : Byte) {x : Byte} {n : Nat} (hx : x.toNat = 128 * n) :
    ((v >>> 1) ||| x).toNat = v.toNat / 2 + 128 * n := by
  have hv : (v >>> 1).toNat < 2 ^ 7 := by
    have := v.isLt
    rw [shiftRight_one_toNat]
    omega
  rw [BitVec.or_comm, toNat_or_eq_add 7 n hx hv, hx, shiftRight_one_toNat, Nat.add_comm]

/-- Bit 7 alone, which SRA keeps. -/
theorem toNat_and_0x80 (v : Byte) : (v &&& 0x80).toNat = 128 * (v.toNat / 128) := by
  have hand : v &&& 0x80 = if v.getLsbD 7 then 0x80 else 0 := BitVec.and_twoPow v 7
  rw [hand, ← getLsbD_seven_toNat]
  cases v.getLsbD 7 <;> rfl

theorem swap_toNat (v : Byte) : ((v <<< 4) ||| (v >>> 4)).toNat = 16 * (v.toNat % 16) + v.toNat / 16 := by
  have hhigh : (v <<< 4).toNat = 2 ^ 4 * (v.toNat % 16) := by
    rw [BitVec.toNat_shiftLeft, Nat.shiftLeft_eq]
    omega
  have hlow : (v >>> 4).toNat = v.toNat / 2 ^ 4 := by
    rw [BitVec.toNat_ushiftRight, Nat.shiftRight_eq_div_pow]
  have hlt : (v >>> 4).toNat < 2 ^ 4 := by
    have := v.isLt
    omega
  rw [toNat_or_eq_add 4 _ hhigh hlt, hhigh, hlow]
  rfl

theorem shiftOut_result_toNat (op : ShiftOp) (v : Byte) (c : Bool) :
    (shiftOut op v c).result.toNat = (shifted op v.toNat c.toNat).1 := by
  cases op with
  | rlc => rw [shiftOut, shiftLeft_one_or_bitAt_toNat, getLsbD_seven_toNat, shifted]
  | rrc => rw [shiftOut, shiftRight_one_or_toNat v (bitAt_seven_toNat _), getLsbD_zero_toNat, shifted]
  | rl => exact shiftLeft_one_or_bitAt_toNat v c
  | rr => exact shiftRight_one_or_toNat v (bitAt_seven_toNat c)
  | sla => exact shiftLeft_one_toNat v
  | sra => exact shiftRight_one_or_toNat v (toNat_and_0x80 v)
  | swap => exact swap_toNat v
  | srl => exact shiftRight_one_toNat v

/-- The bit shifted out is bit 7 to the left and bit 0 to the right; SWAP shifts none out. -/
theorem shiftOut_carry (op : ShiftOp) (v : Byte) (c : Bool) :
    (shiftOut op v c).carry = (shifted op v.toNat c.toNat).2 := by
  cases op with
  | rlc | rl | sla => exact getLsbD_seven v
  | rrc | rr | sra | srl => exact getLsbD_zero v
  | swap => rfl

theorem shiftOut_result (op : ShiftOp) (v : Byte) (c : Bool) :
    (shiftOut op v c).result = BitVec.ofNat 8 (shifted op v.toNat c.toNat).1 := by
  rw [← shiftOut_result_toNat, BitVec.ofNat_toNat, BitVec.setWidth_eq]

theorem shiftFlags_shiftOut (op : ShiftOp) (v : Byte) (c : Bool) :
    shiftFlags (shiftOut op v c) =
      { z := decide ((shifted op v.toNat c.toNat).1 = 0), n := false, h := false
        c := (shifted op v.toNat c.toNat).2 } := by
  simp only [shiftFlags, byte_eq_zero_iff, shiftOut_result_toNat, shiftOut_carry]

/-! ### Single bits -/

theorem twoPow_eq_ofNat (b : Nat) : BitVec.twoPow 8 b = BitVec.ofNat 8 (2 ^ b) :=
  BitVec.eq_of_toNat_eq (by rw [BitVec.toNat_twoPow, BitVec.toNat_ofNat])

/-- The bits of a byte outside and inside a mask add up to it. -/
theorem and_not_add_and (x y : Byte) : (x &&& ~~~y) + (x &&& y) = x := by
  have hdisjoint : (x &&& ~~~y) &&& (x &&& y) = 0 := by
    ext i
    cases hy : y[i] <;> simp [hy]
  rw [BitVec.add_eq_or_of_and_eq_zero _ _ hdisjoint, ← BitVec.and_or_distrib_left, BitVec.not_or_self,
    BitVec.and_allOnes]

theorem or_and_self (x y : Byte) : x ||| (x &&& y) = x := by
  ext i
  rw [BitVec.getElem_or, BitVec.getElem_and]
  exact sup_inf_self

/-- Setting a clear bit adds its weight. -/
theorem or_one_shiftLeft_eq_ofNat (v : Byte) (b : Nat) :
    v ||| (1#8 <<< b) = BitVec.ofNat 8 (if v.toNat.testBit b then v.toNat else v.toNat + 2 ^ b) := by
  have hand := BitVec.and_twoPow v b
  rw [← BitVec.twoPow_eq, BitVec.testBit_toNat]
  split
  case isTrue hset =>
    rw [if_pos hset] at hand
    rw [← hand, or_and_self, BitVec.ofNat_toNat, BitVec.setWidth_eq]
  case isFalse hclear =>
    rw [if_neg hclear] at hand
    rw [← BitVec.add_eq_or_of_and_eq_zero _ _ hand, twoPow_eq_ofNat, byte_add_ofNat]

/-- Clearing a set bit subtracts its weight. -/
theorem and_not_one_shiftLeft_eq_ofNat (v : Byte) (b : Nat) :
    v &&& ~~~(1#8 <<< b) = BitVec.ofNat 8 (if v.toNat.testBit b then v.toNat - 2 ^ b else v.toNat) := by
  have hsum := and_not_add_and v (BitVec.twoPow 8 b)
  rw [BitVec.and_twoPow] at hsum
  rw [← BitVec.twoPow_eq, BitVec.testBit_toNat]
  split
  case isTrue hset =>
    have hle : 2 ^ b ≤ v.toNat := Nat.ge_two_pow_of_testBit hset
    rw [if_pos hset] at hsum
    rw [← BitVec.ofNat_sub_ofNat_of_le _ _ (hle.trans_lt v.isLt) hle, ← twoPow_eq_ofNat, BitVec.ofNat_toNat,
      BitVec.setWidth_eq]
    exact BitVec.eq_sub_iff_add_eq.mpr hsum
  case isFalse hclear =>
    rw [if_neg hclear, BitVec.add_zero] at hsum
    rw [hsum, BitVec.ofNat_toNat, BitVec.setWidth_eq]

end Sys2Proof.Machine
end

section
/-! Rotates, shifts and bit operations (43_rotate_shift_bit.md R270–R297): the bytes, the next state and the frame of each
form. -/

namespace Sys2Proof.Machine

open Sys2Proof.Claims

/-! ### Rotates and shifts -/

theorem rotateA_eq (op : ShiftOp) (s : State) :
    rotateA op s =
      { s with regs := { s.regs with
          a := BitVec.ofNat 8 (shifted op s.regs.a.toNat (carryIn s)).1
          f := flagByte false false false (shifted op s.regs.a.toNat (carryIn s)).2 } } := by
  rw [rotateA, setFlags_eq, shiftOut_result, rotateAFlags, shiftOut_carry]
  rfl

/-- Settles O51: the four share the CB form's result and carry; the flags are written with Z clear. -/
theorem accumulatorRotates : Obligations.AccumulatorRotates := by
  intro s op i opcode hmem out
  simp only [List.mem_cons, List.not_mem_nil, or_false, Prod.mk.injEq] at hmem
  obtain ⟨rfl, rfl, rfl⟩ | ⟨rfl, rfl, rfl⟩ | ⟨rfl, rfl, rfl⟩ | ⟨rfl, rfl, rfl⟩ := hmem
  all_goals exact does_of_exec_withRegs rfl rfl (rotateA_eq _ s)

/-- The state a rotate, shift or SWAP leaves, `out` being its result and carry (43_rotate_shift_bit.md section 3). -/
def shiftedOperand (s : State) (o : Operand8) (out : Nat × Bool) : State :=
  putOperand { afterValue s o with regs := { s.regs with f := flagByte (decide (out.1 = 0)) false false out.2 } } o
    (BitVec.ofNat 8 out.1)

theorem shiftOperand_eq (op : ShiftOp) (o : Operand8) (s : State) :
    shiftOperand op o s = shiftedOperand s o (shifted op (valueOf s o).toNat (carryIn s)) := by
  rw [shiftOperand, shiftFlags_shiftOut, shiftOut_result, afterOperand_setFlags_eq, shiftedOperand, valueOf_eq_operand,
    afterValue_eq_afterOperand, putOperand_eq_writeOperand]
  rfl

/-- Every CB operation of x = 0, on r or (HL): the operand's read, the flags, then the write. -/
theorem does_shiftForm (s : State) (op : ShiftOp) (r : Operand8) :
    Does (Instr.shiftForm op r) [0xCB, 8 * shiftCode op + registerCode r] s
      (shiftedOperand s r (shifted op (valueOf s r).toNat (carryIn s))) (storedBy s r) := by
  obtain ⟨hdecode, -⟩ := cbFieldsSelectOperations
  rw [← shiftOperand_eq]
  exact ⟨encode_of_decode (hdecode op r), exec_shiftForm op r s, (busFrame_setFlags_writeOperand s r _ _).only⟩

/-- Settles O52: the rotates among the operations of x = 0. -/
theorem rotateForms : Obligations.RotateForms :=
  fun s op r _ => does_shiftForm s op r

/-- Settles O53: the shifts and SWAP among the operations of x = 0. -/
theorem shiftForms : Obligations.ShiftForms :=
  fun s op r _ => does_shiftForm s op r

/-! ### Bit operations -/

theorem testBit_eq (b : Fin 8) (o : Operand8) (s : State) :
    testBit b o s =
      { afterValue s o with
        regs := { s.regs with f := flagByte (!(valueOf s o).toNat.testBit b) false true (cOf s) } } := by
  rw [testBit, afterOperand_setFlags_eq, testBitFlags, valueOf_eq_operand, afterValue_eq_afterOperand,
    BitVec.testBit_toNat]
  rfl

/-- An operand is read and written at one `hl`, since the read leaves the registers. -/
theorem busFrame_afterOperand_writeOperand (s : State) (o : Operand8) (v : Byte) :
    BusFrame s ((s.afterOperand o).writeOperand o v) (storedBy s o) := by
  have hwrite := busFrame_writeOperand (s.afterOperand o) o v
  rw [storedBy_congr (afterOperand_regs s o)] at hwrite
  exact (busFrame_afterOperand s o).trans hwrite

/-- An instruction that replaces its operand's value and writes no flag. -/
theorem does_of_exec_writeOperand {i : Instr} {bytes : List Byte} {s : State} {o : Operand8} {v w : Byte}
    (hdecode : decode bytes = .ok (i, [])) (hexec : exec i s = .next ((s.afterOperand o).writeOperand o v)) (hv : v = w) :
    Does i bytes s (putOperand (afterValue s o) o w) (storedBy s o) := by
  rw [putOperand_eq_writeOperand, afterValue_eq_afterOperand, ← hv]
  exact ⟨encode_of_decode hdecode, hexec, (busFrame_afterOperand_writeOperand s o v).only⟩

theorem busFrame_afterValue (s : State) (o : Operand8) : BusFrame s (afterValue s o) [] := by
  rw [afterValue_eq_afterOperand]
  exact busFrame_afterOperand s o

/-- Settles O54: BIT reads and writes flags only; RES and SET read and write the operand. -/
theorem bitForms : Obligations.BitForms := by
  intro s b r v u
  obtain ⟨-, hdecode, -⟩ := cbFieldsSelectOperations
  obtain ⟨hbit, hres, hset⟩ := hdecode b r
  have hvalue : s.operand r = valueOf s r := (valueOf_eq_operand s r).symm
  refine ⟨⟨encode_of_decode hbit, ?_, ?_⟩, does_of_exec_writeOperand hres (exec_resForm b r s) ?_,
    does_of_exec_writeOperand hset (exec_setForm b r s) ?_⟩
  · rw [exec_bitForm, testBit_eq]
  · exact ((busFrame_afterValue s r).withRegs _).only
  · rw [hvalue, and_not_one_shiftLeft_eq_ofNat]
  · rw [hvalue, or_one_shiftLeft_eq_ofNat]

end Sys2Proof.Machine
end

section
/-! Control transfer (44_control.md R310–R320): jumps, calls and returns as the statements' states, and the conditional forms
by their condition. -/

namespace Sys2Proof.Machine

open Sys2Proof.Claims

/-! ### Conditions and frames -/

theorem holds_eq_condHolds (s : State) (cc : Cond) : s.holds cc = condHolds s cc := by
  cases cc with
  | nz | nc => exact (beq_false _).symm
  | z | c => rfl

/-- No read sees the clock. -/
theorem BusFrame.addTicks {s t : State} {stored : List Word} (h : BusFrame s t stored) (n : Nat) :
    BusFrame s (t.addTicks n) stored :=
  ⟨h.only, h.draws⟩

/-- No read sees `master`. -/
theorem BusFrame.setMaster {s t : State} {stored : List Word} (h : BusFrame s t stored) (b : Bool) :
    BusFrame s (t.setMaster b) stored :=
  ⟨h.only, h.draws⟩

theorem does_of_exec_busFrame {i : Instr} {bytes : List Byte} {s t u : State} {stored : List Word}
    (hbytes : encode i = bytes) (hexec : exec i s = .next t) (ht : t = u) (hframe : BusFrame s t stored) :
    Does i bytes s u stored :=
  ht ▸ ⟨hbytes, hexec, hframe.only⟩

/-- A conditional transfer stores what the taken one stores, or nothing. -/
theorem does_of_exec_conditional {i : Instr} {bytes : List Byte} {s t u : State} {cc : Cond} {stored : List Word}
    (hbytes : encode i = bytes) (hexec : exec i s = .next (if s.holds cc then t else s)) (ht : t = u)
    (hframe : BusFrame s t stored) :
    Does i bytes s (if condHolds s cc then u else s) (if condHolds s cc then stored else []) := by
  rw [holds_eq_condHolds] at hexec
  cases hc : condHolds s cc with
  | false =>
    simp only [hc, Bool.false_eq_true, if_false] at hexec ⊢
    exact does_of_exec_busFrame hbytes hexec rfl (.refl s)
  | true =>
    simp only [hc, if_true] at hexec ⊢
    exact does_of_exec_busFrame hbytes hexec ht hframe

/-- A conditional transfer that stores nothing when taken stores nothing at all. -/
theorem does_of_exec_conditional_nil {i : Instr} {bytes : List Byte} {s t u : State} {cc : Cond}
    (hbytes : encode i = bytes) (hexec : exec i s = .next (if s.holds cc then t else s)) (ht : t = u)
    (hframe : BusFrame s t []) : Does i bytes s (if condHolds s cc then u else s) [] := by
  have h := does_of_exec_conditional hbytes hexec ht hframe
  rwa [ite_self] at h

/-! ### Jumps -/

theorem busFrame_setPc (s : State) (v : Word) : BusFrame s (s.setPc v) [] :=
  (BusFrame.refl s).withRegs _

theorem jumpRelative_eq (e : Byte) (s : State) :
    jumpRelative e s = s.setPc (BitVec.ofInt 16 ((s.regs.pc.toNat : Int) + signed e)) := by
  rw [jumpRelative, add_signExtend16]

theorem encode_jpNn (nn : Word) : encode (.jpNn nn) = 0xC3 :: wordBytes nn := by
  rw [wordBytes_eq]
  rfl

theorem encode_jumpIfForm (nn : Word) (cc : Cond) :
    encode (Instr.jumpIfForm nn cc) = (0xC2 + 8 * condCode cc) :: wordBytes nn := by
  rw [wordBytes_eq]
  cases cc <;> rfl

theorem exec_jumpIfForm (nn : Word) (cc : Cond) (s : State) :
    exec (Instr.jumpIfForm nn cc) s = .next (jumpIf cc nn s) := by
  cases cc <;> rfl

theorem encode_jumpRelativeIfForm (e : Byte) (cc : Cond) :
    encode (Instr.jumpRelativeIfForm e cc) = [0x20 + 8 * condCode cc, e] := by
  cases cc <;> rfl

theorem exec_jumpRelativeIfForm (e : Byte) (cc : Cond) (s : State) :
    exec (Instr.jumpRelativeIfForm e cc) s = .next (jumpRelativeIf cc e s) := by
  cases cc <;> rfl

/-- Settles O55: each jump writes `pc`; a conditional one does so, and adds its cost, when its condition holds. -/
theorem jumpForms : Obligations.JumpForms := by
  intro s cc e nn near
  have hnear : jumpRelative e s = { s with regs := { s.regs with pc := near } } := jumpRelative_eq e s
  have hhl : s.setPc (s.pair .hl) = { s with regs := { s.regs with pc := hlOf s } } := by
    rw [hlOf_eq_pair]
    rfl
  have htaken : (jumpRelative e s).addTicks s.params.takenJr =
      { s with regs := { s.regs with pc := near }, ticks := s.ticks + s.params.takenJr } := by
    rw [hnear]
    rfl
  exact ⟨does_of_exec_withRegs (encode_jpNn nn) rfl rfl, does_of_exec_withRegs rfl rfl hhl,
    does_of_exec_withRegs rfl rfl hnear,
    does_of_exec_conditional_nil (encode_jumpIfForm nn cc) (exec_jumpIfForm nn cc s) rfl
      ((busFrame_setPc s nn).addTicks _),
    does_of_exec_conditional_nil (encode_jumpRelativeIfForm e cc) (exec_jumpRelativeIfForm e cc s) htaken
      ((busFrame_setPc s _).addTicks _)⟩

/-! ### Calls -/

theorem pushWord_eq_pushed (s : State) (v : Word) :
    s.pushWord v = pushed s (BitVec.ofNat 8 (v.toNat / 256)) (BitVec.ofNat 8 v.toNat) := by
  rw [pushed_eq_pushWord, ← hiByte_eq_ofNat, ← loByte_eq_ofNat, wordOfBytes_lo_hi]

theorem call_eq (target : Word) (s : State) :
    call target s =
      { s.pushWord s.regs.pc with regs := { s.regs with sp := s.regs.sp - 2, pc := target } } := by
  rw [call, State.setPc, pushWord_regs]

@[simp] theorem call_ticks (target : Word) (s : State) : (call target s).ticks = s.ticks :=
  pushWord_ticks s s.regs.pc

theorem busFrame_call (target : Word) (s : State) : BusFrame s (call target s) (pushAddresses s) :=
  (busFrame_pushWord s s.regs.pc).withRegs _

theorem encode_callNn (nn : Word) : encode (.callNn nn) = 0xCD :: wordBytes nn := by
  rw [wordBytes_eq]
  rfl

theorem exec_restartForm (k : Fin 8) (s : State) :
    exec (Instr.restartForm k) s = .next (call (BitVec.ofNat 16 (8 * k.val)) s) := by
  fin_cases k <;> rfl

theorem encode_callIfForm (nn : Word) (cc : Cond) :
    encode (Instr.callIfForm nn cc) = (0xC4 + 8 * condCode cc) :: wordBytes nn := by
  rw [wordBytes_eq]
  cases cc <;> rfl

theorem exec_callIfForm (nn : Word) (cc : Cond) (s : State) :
    exec (Instr.callIfForm nn cc) s = .next (callIf cc nn s) := by
  cases cc <;> rfl

/-- Settles O56: a push of `pc`, then a jump; an untaken call does neither. -/
theorem callForms : Obligations.CallForms := by
  intro s cc nn k stacked called
  have hcalled (target : Word) : call target s = called target := by
    rw [call_eq, pushWord_eq_pushed]
  have htaken : (call nn s).addTicks s.params.takenCall =
      { called nn with ticks := s.ticks + s.params.takenCall } := by
    rw [State.addTicks, call_ticks, hcalled]
  exact ⟨does_of_exec_busFrame (encode_callNn nn) rfl (hcalled nn) (busFrame_call nn s),
    does_of_exec_busFrame (encode_of_decode (decode_restartForm k)) (exec_restartForm k s) (hcalled _)
      (busFrame_call _ s),
    does_of_exec_conditional (encode_callIfForm nn cc) (exec_callIfForm nn cc s) htaken
      ((busFrame_call nn s).addTicks _)⟩

/-! ### Returns -/

theorem returnFromCall_eq (s : State) :
    returnFromCall s = { popped s with regs := { (popped s).regs with pc := poppedWord s } } := by
  rw [returnFromCall, popped_eq_afterPop, popValue_eq, poppedWord, ofNat_eq_wordOfBytes]
  rfl

@[simp] theorem returnFromCall_ticks (s : State) : (returnFromCall s).ticks = s.ticks :=
  afterPop_ticks s

@[simp] theorem returnFromCall_intr (s : State) : (returnFromCall s).intr = s.intr :=
  afterPop_intr s

theorem busFrame_returnFromCall (s : State) : BusFrame s (returnFromCall s) [] :=
  (busFrame_afterPop s).withRegs _

theorem encode_returnIfForm (cc : Cond) : encode (Instr.returnIfForm cc) = [0xC0 + 8 * condCode cc] := by
  cases cc <;> rfl

theorem exec_returnIfForm (cc : Cond) (s : State) : exec (Instr.returnIfForm cc) s = .next (returnIf cc s) := by
  cases cc <;> rfl

theorem afterRead_setMaster (s : State) (b : Bool) (a : Word) :
    (s.setMaster b).afterRead a = (s.afterRead a).setMaster b := by
  unfold State.afterRead
  cases busTarget a with
  | rom i => exact (apply_ite (State.setMaster · b) (i < s.romLen) s (s.addDiag (.outOfRange a))).symm
  | joypad => exact (apply_ite (State.setMaster · b) (s.joypadWired = true) s.addDraw s).symm
  | _ => rfl

theorem popValue_setMaster (s : State) (b : Bool) : (s.setMaster b).popValue = s.popValue := by
  rw [popValue_eq, popLow, popHigh, afterRead_setMaster]
  rfl

theorem afterPop_setMaster (s : State) (b : Bool) : (s.setMaster b).afterPop = s.afterPop.setMaster b := by
  rw [State.afterPop, State.afterReadShort, afterRead_setMaster, afterRead_setMaster]
  rfl

/-- `master` plays no part in the pop, so RETI may set it after the pop as well as before (44_control.md R319). -/
theorem returnFromInterrupt_eq (s : State) : returnFromInterrupt s = (returnFromCall s).setMaster true := by
  rw [returnFromInterrupt, returnFromCall, popValue_setMaster, afterPop_setMaster]
  rfl

/-- Settles O57: the popped word goes to `pc`; the two reads store nothing. -/
theorem returnForms : Obligations.ReturnForms := by
  intro s cc returned
  have hreturned : returnFromCall s = returned := returnFromCall_eq s
  have htaken : (returnFromCall s).addTicks s.params.takenRet =
      { returned with ticks := s.ticks + s.params.takenRet } := by
    rw [State.addTicks, returnFromCall_ticks, hreturned]
  have hmaster : returnFromInterrupt s = { returned with intr := { s.intr with master := true } } := by
    rw [returnFromInterrupt_eq, State.setMaster, returnFromCall_intr, hreturned]
  have hframe := busFrame_returnFromCall s
  exact ⟨does_of_exec_busFrame rfl rfl hreturned hframe,
    does_of_exec_conditional_nil (encode_returnIfForm cc) (exec_returnIfForm cc s) htaken
      (hframe.addTicks _),
    does_of_exec_busFrame rfl rfl hmaster (returnFromInterrupt_eq s ▸ hframe.setMaster true)⟩

end Sys2Proof.Machine
end

section
/-! System instructions (45_system.md R340–R344): the stopped latch and `master` are flags that no read sees. -/

namespace Sys2Proof.Machine

open Sys2Proof.Claims

/-- No read sees the stopped latch. -/
theorem BusFrame.setStopped {s t : State} {stored : List Word} (h : BusFrame s t stored) (b : Bool) :
    BusFrame s (t.setStopped b) stored :=
  ⟨h.only, h.draws⟩

/-- Settles O58: NOP and HALT answer the state itself, STOP the latch set, DI and EI `master` written. -/
theorem systemForms : Obligations.SystemForms := by
  intro s n
  have hsame : BusFrame s s [] := .refl s
  have hnop : Does .nop [0x00] s s [] := does_of_exec_busFrame rfl rfl rfl hsame
  have hhalt : Does .halt [0x76] s s [] := does_of_exec_busFrame rfl rfl rfl hsame
  have hstop : Does (.stop n) [0x10, n] s (s.setStopped true) [] :=
    does_of_exec_busFrame rfl rfl rfl (hsame.setStopped true)
  have hdi : Does .di [0xF3] s (s.setMaster false) [] :=
    does_of_exec_busFrame rfl rfl rfl (hsame.setMaster false)
  have hei : Does .ei [0xFB] s (s.setMaster true) [] :=
    does_of_exec_busFrame rfl rfl rfl (hsame.setMaster true)
  exact ⟨hnop, hhalt, hstop, hdi, hei⟩

end Sys2Proof.Machine
end

section
/-! `master` (60_exceptions.md R369, 45_system.md R343, R344, 44_control.md R319): the operations that write it, by their opcodes,
and the dispatch, which clears it. -/

namespace Sys2Proof.Machine

theorem writesMaster_cases {x : Action} (h : x.writesMaster = true) :
    (∃ b, x = .setMaster b) ∨ x = .returnFromInterrupt := by
  cases x with
  | setMaster b => exact .inl ⟨b, rfl⟩
  | returnFromInterrupt => exact .inr rfl
  | _ => cases h

theorem encode_head_of_setMaster {i : Instr} {b : Bool} (h : actionOf i = .setMaster b) :
    (encode i).headD 0x00 = if b then 0xFB else 0xF3 := by
  cases i with
  | di | ei => cases h; rfl
  | _ => cases h

theorem encode_head_of_returnFromInterrupt {i : Instr} (h : actionOf i = .returnFromInterrupt) :
    (encode i).headD 0x00 = 0xD9 := by
  cases i with
  | reti => rfl
  | _ => cases h

/-- An instruction leaves `master`, or sets it with the opcode of EI or RETI, or clears it with the opcode of DI. -/
theorem run_master_cases (i : Instr) (s : State) :
    ((actionOf i).run s).intr.master = s.intr.master ∨
    (((actionOf i).run s).intr.master = true ∧ (encode i).headD 0x00 ∈ ([0xFB, 0xD9] : List Byte)) ∨
    (((actionOf i).run s).intr.master = false ∧ (encode i).headD 0x00 = 0xF3) := by
  cases hw : (actionOf i).writesMaster with
  | false => exact .inl (run_master hw s)
  | true =>
    rcases writesMaster_cases hw with ⟨b, hi⟩ | hi
    · rw [encode_head_of_setMaster hi, hi]
      cases b with
      | true => exact .inr (.inl ⟨rfl, List.mem_cons_self⟩)
      | false => exact .inr (.inr ⟨rfl, rfl⟩)
    · rw [encode_head_of_returnFromInterrupt hi, hi]
      exact .inr (.inl ⟨by rw [Action.run, returnFromInterrupt_eq]; rfl, by decide⟩)

@[simp] theorem atHandler_intr (s : State) : s.atHandler.intr = s.intr := by
  rw [atHandler_frame]

/-- A CPU step leaves `master`, or sets it by EI or RETI, or clears it by DI. -/
theorem cpuStep_master {s t : State} (h : cpuStep s = .next t) :
    t.intr.master = s.intr.master ∨
    (t.intr.master = true ∧ s.stopped = false ∧ s.fetchedOpcode ∈ ([0xFB, 0xD9] : List Byte)) ∨
    (t.intr.master = false ∧ s.stopped = false ∧ s.fetchedOpcode = 0xF3) := by
  rcases cpuStep_next h with ⟨-, rfl⟩ | ⟨-, -, rfl⟩ | ⟨hs, -, i, rest, hd, rfl⟩
  · exact .inl rfl
  · exact .inl (congrArg Intr.master (atHandler_intr s))
  · rw [← decode_fetchedBytes_head hd, State.addTicks_intr]
    rcases run_master_cases i s.atHandler with hsame | ⟨hset, hop⟩ | ⟨hclear, hop⟩
    · exact .inl (by rw [hsame, atHandler_intr])
    · exact .inr (.inl ⟨hset, hs, hop⟩)
    · exact .inr (.inr ⟨hclear, hs, hop⟩)

@[simp] theorem ppuStep_master (s : State) : (ppuStep s).intr.master = s.intr.master := by
  rw [ppuStep_frame]

@[simp] theorem dispatchInterrupt_master (i : Nat) (s : State) : (dispatchInterrupt i s).intr.master = false := by
  simp [dispatchInterrupt]

/-- The interrupt step leaves `master`, or clears it by a dispatch. -/
theorem intStep_master (s : State) :
    (intStep s).intr.master = s.intr.master ∨
    ((intStep s).intr.master = false ∧ ∃ i, i < 5 ∧ s.intr.master = true ∧ intStep s = dispatchInterrupt i s) := by
  rcases intStep_cases s with ⟨h, -⟩ | ⟨i, hm, hi, h⟩
  · exact .inl (by rw [h])
  · exact .inr ⟨by rw [h, dispatchInterrupt_master], i, (lowestSource_lt hi).1, hm, h⟩

/-- Settles O34: what turns `master` on is the CPU step; what turns it off is the CPU step or the interrupt step. -/
theorem masterChangesOnlyByItsRules : Obligations.MasterChangesOnlyByItsRules := by
  intro s t h
  obtain ⟨-, -, u, hu, -, rfl⟩ := step_next h
  have hcpu := cpuStep_master hu
  have hint := intStep_master (ppuStep u)
  rw [ppuStep_master] at hint
  refine ⟨fun hs ht => ?_, fun hs ht => ?_⟩
  · have hset : u.intr.master = true := by
      rcases hint with hsame | ⟨hclear, -⟩
      · rw [← hsame, ht]
      · simp [ht] at hclear
    rcases hcpu with hsame | ⟨-, hop⟩ | ⟨hclear, -⟩
    · simp [hsame, hs] at hset
    · exact hop
    · simp [hset] at hclear
  · rcases hint with hsame | ⟨-, i, hi, hm, hdispatch⟩
    · rcases hcpu with hkeep | ⟨hset, -⟩ | ⟨-, hop⟩
      · simp [hsame, hkeep, hs] at ht
      · simp [hsame, hset] at ht
      · exact .inl hop
    · exact .inr ⟨ppuStep u, i, hi, by rw [ppuStep_master, hm], hdispatch⟩

end Sys2Proof.Machine
end

section
/-! The interrupt dispatch (60_exceptions.md R370–R375): the source the interrupt step takes, and the dispatch as a call of its
vector, which RETI undoes. -/

namespace Sys2Proof.Machine

open Sys2Proof.Claims

/-! ### The source -/

/-- The source taken is the lowest one set (R371). -/
theorem lowestSource_eq_some_iff {act : Byte} {i : Nat} :
    lowestSource act = some i ↔ i < 5 ∧ act.getLsbD i = true ∧ ∀ j < i, act.getLsbD j = false := by
  constructor
  · intro h
    refine ⟨(lowestSource_lt h).1, (lowestSource_lt h).2, fun j hj => ?_⟩
    unfold lowestSource at h
    grind
  · rintro ⟨hi, hset, hlower⟩
    unfold lowestSource
    grind (splits := 12)

/-- No source is taken when none is active: bits 5 to 7 are masked off (R370). -/
theorem lowestSource_masked_eq_none_iff : ∀ x : Byte, lowestSource (x &&& 0x1F) = none ↔ x &&& 0x1F = 0x00 := by
  decide

theorem activeSources_eq_active (s : State) : s.activeSources = active s := rfl

theorem lowestSource_active_eq_none_iff (s : State) : lowestSource (active s) = none ↔ active s = 0x00 :=
  lowestSource_masked_eq_none_iff _

theorem intStep_of_master_clear {s : State} (h : s.intr.master = false) : intStep s = s := by
  simp [intStep, h]

theorem intStep_of_no_source {s : State} (h : lowestSource (active s) = none) : intStep s = s := by
  simp [intStep, activeSources_eq_active, h]

theorem intStep_of_source {s : State} {i : Nat} (hm : s.intr.master = true) (h : lowestSource (active s) = some i) :
    intStep s = dispatchInterrupt i s := by
  simp [intStep, activeSources_eq_active, hm, h]

/-! ### The dispatch -/

/-- The acknowledgement of source `i`: its pending bit and `master` cleared (R372). -/
def acknowledged (i : Nat) (s : State) : State :=
  (s.setPending (s.intr.pending &&& ~~~(1#8 <<< i))).setMaster false

theorem one_shiftLeft_eq_ofNat (i : Nat) : 1#8 <<< i = BitVec.ofNat 8 (2 ^ i) := by
  apply BitVec.eq_of_toNat_eq
  simp [Nat.shiftLeft_eq]

theorem acknowledged_eq (i : Nat) (s : State) :
    acknowledged i s =
      { s with intr := { s.intr with master := false, pending := s.intr.pending &&& ~~~(BitVec.ofNat 8 (2 ^ i)) } } := by
  rw [← one_shiftLeft_eq_ofNat]
  rfl

/-- A dispatch is a call of the source's vector, after the acknowledgement (R372, R373). -/
theorem dispatchInterrupt_eq_call (i : Nat) (s : State) :
    dispatchInterrupt i s = (call (interruptVector i) (acknowledged i s)).addTicks dispatchCost := rfl

theorem dispatchInterrupt_eq (i : Nat) (s : State) :
    dispatchInterrupt i s =
      { pushed (acknowledged i s) (BitVec.ofNat 8 (s.regs.pc.toNat / 256)) (BitVec.ofNat 8 s.regs.pc.toNat) with
        regs := { s.regs with sp := s.regs.sp - 2, pc := BitVec.ofNat 16 (0x40 + 8 * i) }
        ticks := s.ticks + 12 } := by
  rw [dispatchInterrupt_eq_call, State.addTicks, call_ticks, call_eq, pushWord_eq_pushed]
  rfl

/-- The pending register is the byte at FF0F (20_memory.md R84). -/
theorem busFrame_acknowledged (i : Nat) (s : State) : BusFrame s (acknowledged i s) [0xFF0F] :=
  (busFrame_writeByte s 0xFF0F _).setMaster false

theorem busFrame_dispatchInterrupt (i : Nat) (s : State) :
    BusFrame s (dispatchInterrupt i s) (0xFF0F :: pushAddresses s) :=
  (busFrame_acknowledged i s).trans ((busFrame_call (interruptVector i) (acknowledged i s)).addTicks dispatchCost)

/-- Settles O26: the source found is the lowest active one, and its dispatch is a call of the vector. -/
theorem dispatchTakesTheLowestActiveSource : Obligations.DispatchTakesTheLowestActiveSource := by
  refine ⟨fun s h => ?_, fun s _ hact => ?_, fun s cleared after i hm hi hset hlower hcleared hafter => ?_⟩
  · rcases h with hclear | hnone
    · exact intStep_of_master_clear hclear
    · exact intStep_of_no_source ((lowestSource_active_eq_none_iff s).2 hnone)
  · obtain ⟨i, hi⟩ := Option.ne_none_iff_exists'.1 (mt (lowestSource_active_eq_none_iff s).1 hact)
    exact ⟨i, lowestSource_eq_some_iff.1 hi⟩
  · rw [intStep_of_source hm (lowestSource_eq_some_iff.2 ⟨hi, hset, hlower⟩), hafter, hcleared, ← acknowledged_eq]
    exact ⟨dispatchInterrupt_eq i s, (busFrame_dispatchInterrupt i s).only⟩

/-! ### The return -/

theorem popValue_of_plain {s : State} (h : PlainStorage (s.regs.sp + 1)) :
    s.popValue = wordOfBytes (s.readByte s.regs.sp) (s.readByte (s.regs.sp + 1)) := by
  rw [State.popValue, State.readShort, readByte_afterRead (.inl (plainStorage_ne_free h))]

@[simp] theorem dispatchInterrupt_regs (i : Nat) (s : State) :
    (dispatchInterrupt i s).regs = { s.regs with sp := s.regs.sp - 2, pc := interruptVector i } := by
  rw [dispatchInterrupt_eq]
  rfl

/-- The word on the stack after a dispatch is the `pc` it left. -/
theorem popValue_dispatchInterrupt {s : State} (i : Nat) (hwf : Memory.wf s.mem) (hlo : PlainStorage (s.regs.sp - 2))
    (hhi : PlainStorage (s.regs.sp - 1)) : (dispatchInterrupt i s).popValue = s.regs.pc := by
  have hnext : PlainStorage (s.regs.sp - 2 + 1) := by rwa [sub_two_add_one]
  have hpush : ((acknowledged i s).pushWord s.regs.pc).popValue = s.regs.pc :=
    (pushThenPopReturnsTheValue (acknowledged i s) s.regs.pc hwf hlo hhi).1
  rw [popValue_of_plain (by rwa [pushWord_regs]), pushWord_regs] at hpush
  rw [popValue_of_plain (by rwa [dispatchInterrupt_regs]), dispatchInterrupt_regs]
  exact hpush

theorem returnFromCall_regs (s : State) :
    (returnFromCall s).regs = { s.regs with sp := s.regs.sp + 2, pc := s.popValue } := by
  simp [returnFromCall]

/-- Settles O27: RETI pops the `pc` the dispatch pushed, and `sp` comes back by the same two bytes. -/
theorem retiUndoesADispatch : Obligations.RetiUndoesADispatch := by
  intro s i hwf hlo hhi
  refine ⟨returnFromInterrupt (dispatchInterrupt i s), rfl, ?_, ?_⟩
  · rw [returnFromInterrupt_eq, State.setMaster_regs, returnFromCall_regs, popValue_dispatchInterrupt i hwf hlo hhi,
      dispatchInterrupt_regs]
    simp
  · rw [returnFromInterrupt_eq]
    rfl

end Sys2Proof.Machine
end

section
/-! The pixel-timing step (60_exceptions.md R380–R386): its two cases by the threshold of the mode, each with its whole next
state. -/

namespace Sys2Proof.Machine

/-- Leaving a mode, as one record: the VBLANK request is the only write outside the unit. -/
theorem leaveMode_eq (s : State) :
    leaveMode s =
      { s with
        ppu := { s.ppu with
          tick := s.ppu.tick - modeCycles s.ppu.mode
          scanline := (nextLine s.ppu.mode s.ppu.scanline).1
          mode := (nextLine s.ppu.mode s.ppu.scanline).2 }
        intr := { s.intr with
          pending := if raisesVblank s then s.intr.pending ||| 0x01 else s.intr.pending } } := by
  unfold leaveMode
  split <;> rfl

theorem ppuStep_below {s : State} (h : s.ppu.tick + (s.ticks - s.ppu.lastTicks) < modeCycles s.ppu.mode) :
    ppuStep s = accrueTicks s :=
  if_neg (Nat.not_le.2 h)

theorem ppuStep_reached {s : State} (h : modeCycles s.ppu.mode ≤ s.ppu.tick + (s.ticks - s.ppu.lastTicks)) :
    ppuStep s = leaveMode (accrueTicks s) :=
  if_pos h

/-! ### The transitions -/

/-- A transition, by the mode left, its threshold, and the line and the mode entered. -/
theorem ppuStep_transition {s : State} {mode next : PpuMode} {cycles line : Nat} (hm : s.ppu.mode = mode)
    (hc : modeCycles mode = cycles) (h : cycles ≤ s.ppu.tick + (s.ticks - s.ppu.lastTicks))
    (hnext : nextLine mode s.ppu.scanline = (line, next)) :
    ppuStep s =
      { s with
        ppu := { s.ppu with
          tick := s.ppu.tick + (s.ticks - s.ppu.lastTicks) - cycles
          scanline := line
          mode := next
          lastTicks := s.ticks }
        intr := { s.intr with
          pending := if raisesVblank s then s.intr.pending ||| 0x01 else s.intr.pending } } := by
  subst hm hc
  have hnext' : nextLine (accrueTicks s).ppu.mode (accrueTicks s).ppu.scanline = (line, next) := hnext
  rw [ppuStep_reached h, leaveMode_eq, hnext']
  rfl

/-- A transition that requests no interrupt. -/
theorem ppuStep_transition_quiet {s : State} {mode next : PpuMode} {cycles line : Nat} (hm : s.ppu.mode = mode)
    (hc : modeCycles mode = cycles) (h : cycles ≤ s.ppu.tick + (s.ticks - s.ppu.lastTicks))
    (hnext : nextLine mode s.ppu.scanline = (line, next)) (hv : raisesVblank s = false) :
    ppuStep s =
      { s with ppu := { s.ppu with
          tick := s.ppu.tick + (s.ticks - s.ppu.lastTicks) - cycles
          scanline := line
          mode := next
          lastTicks := s.ticks } } := by
  rw [ppuStep_transition hm hc h hnext, hv]
  rfl

theorem raisesVblank_of_mode_ne {s : State} (h : s.ppu.mode ≠ .hblank) : raisesVblank s = false := by
  simp [raisesVblank, h]

theorem raisesVblank_of_line_ne {s : State} (h : s.ppu.scanline + 1 ≠ 144) : raisesVblank s = false := by
  rw [raisesVblank, beq_false_of_ne h, Bool.and_false, Bool.false_and]

/-- The end of line 143 requests VBLANK when bit 0 of `enable` is set (R383). -/
theorem raisesVblank_at_end {s : State} (hm : s.ppu.mode = .hblank) (hl : s.ppu.scanline + 1 = 144) :
    raisesVblank s = s.intr.enable.getLsbD 0 := by
  rw [raisesVblank, hm, hl]
  rfl

/-- Settles O28: each mode by its threshold and its next line; below the threshold the cycles only accrue. -/
theorem pixelTimingCrossesOneThreshold : Obligations.PixelTimingCrossesOneThreshold := by
  rintro s _ rfl
  have hquiet {mode : PpuMode} (hm : s.ppu.mode = mode) (hne : mode ≠ .hblank) : raisesVblank s = false :=
    raisesVblank_of_mode_ne (hm ▸ hne)
  refine ⟨fun hm h => ?oam, fun hm h => ?vram, fun hm h hl => ?nextLine, fun hm h hl => ?vblankBegins,
    fun hm h hl => ?vblankLine, fun hm h hl => ?vblankEnds, fun h => ?below⟩
  case oam => exact ppuStep_transition_quiet hm rfl h rfl (hquiet hm (by decide))
  case vram => exact ppuStep_transition_quiet hm rfl h rfl (hquiet hm (by decide))
  case nextLine => exact ppuStep_transition_quiet hm rfl h (if_neg hl) (raisesVblank_of_line_ne hl)
  case vblankBegins =>
    rw [← raisesVblank_at_end hm hl, ← hl]
    exact ppuStep_transition hm rfl h (if_pos hl)
  case vblankLine =>
    have hstep := ppuStep_transition_quiet (cycles := 456) hm rfl h (if_neg (Nat.not_lt.2 hl)) (hquiet hm (by decide))
    rw [← hm] at hstep
    exact hstep
  case vblankEnds => exact ppuStep_transition_quiet hm rfl h (if_pos hl) (hquiet hm (by decide))
  case below =>
    refine ppuStep_below (h.trans_eq ?_)
    cases s.ppu.mode <;> rfl

/-! ### The display registers -/

/-- The state with other display registers (10_state.md R45). -/
def withDisplay (c y x : Byte) (s : State) : State :=
  { s with ppu := { s.ppu with control := c, scrollY := y, scrollX := x } }

theorem accrueTicks_withDisplay (c y x : Byte) (s : State) :
    accrueTicks (withDisplay c y x s) = withDisplay c y x (accrueTicks s) := rfl

theorem leaveMode_withDisplay (c y x : Byte) (s : State) :
    leaveMode (withDisplay c y x s) = withDisplay c y x (leaveMode s) := by
  rw [leaveMode_eq, leaveMode_eq]
  rfl

theorem ppuStep_withDisplay (c y x : Byte) (s : State) :
    ppuStep (withDisplay c y x s) = withDisplay c y x (ppuStep s) := by
  by_cases h : modeCycles s.ppu.mode ≤ s.ppu.tick + (s.ticks - s.ppu.lastTicks)
  · rw [ppuStep_reached h, ppuStep_reached (s := withDisplay c y x s) h, accrueTicks_withDisplay, leaveMode_withDisplay]
  · have hlt := Nat.not_le.1 h
    rw [ppuStep_below hlt, ppuStep_below (s := withDisplay c y x s) hlt, accrueTicks_withDisplay]

/-- Settles O29: neither the accrual nor a transition reads or writes a display register. -/
theorem pixelTimingIgnoresTheDisplayRegisters : Obligations.PixelTimingIgnoresTheDisplayRegisters := by
  intro s c y x
  refine ⟨ppuStep_withDisplay c y x s, ?_⟩
  rw [ppuStep_frame]

end Sys2Proof.Machine
end

section
/-! The host's actions (60_exceptions.md R393): the cells of a loaded image, the two outcomes of a load, and the invariant
after each action. -/

namespace Sys2Proof.Machine

/-! ### Two stores side by side -/

/-- A key that the second store does not reach is read in the first. -/
theorem Memory.read_append_left {m m' : Memory} {k : Nat} (h : ∀ x ∈ m', k < x.1) :
    Memory.read (m ++ m') k = m.read k := by
  induction m with
  | nil => exact Memory.read_of_lt h
  | cons c m ih => simp only [List.cons_append, Memory.read, ih]

/-- A key that the first store does not list is read in the second. -/
theorem Memory.read_append_right {m m' : Memory} {k : Nat} (h : ∀ x ∈ m, x.1 ≠ k) :
    Memory.read (m ++ m') k = m'.read k := by
  induction m with
  | nil => rfl
  | cons c m ih =>
    rw [List.cons_append, Memory.read, if_neg (h c List.mem_cons_self)]
    exact ih fun x hx => h x (List.mem_cons_of_mem _ hx)

/-- A selection by address keeps what is read at the selected addresses. -/
theorem Memory.read_filter {m : Memory} {p : Nat → Bool} {k : Nat} (hk : p k = true) :
    Memory.read (m.filter fun c => p c.1) k = m.read k := by
  induction m with
  | nil => rfl
  | cons c m ih =>
    cases hp : p c.1 with
    | true => simp only [List.filter_cons, hp, if_true, Memory.read, ih]
    | false =>
      have hne : c.1 ≠ k := by
        rintro rfl
        rw [hk] at hp
        cases hp
      simp only [List.filter_cons, hp, Bool.false_eq_true, if_false, Memory.read, if_neg hne, ih]

theorem Memory.wf_filter {m : Memory} (h : Memory.wf m) (p : Host.Cell → Bool) : Memory.wf (m.filter p) :=
  ⟨h.1.filter p, fun c hc => h.2 c (List.mem_of_mem_filter hc)⟩

theorem Memory.wf_append {m m' : Memory} (h : Memory.wf m) (h' : Memory.wf m') (hlt : ∀ x ∈ m, ∀ y ∈ m', x.1 < y.1) :
    Memory.wf (m ++ m') :=
  ⟨List.pairwise_append.2 ⟨h.1, h'.1, hlt⟩, fun c hc => (List.mem_append.1 hc).elim (h.2 c) (h'.2 c)⟩

/-! ### The cells of an image -/

theorem mem_romCells {bytes : List Byte} {i : Nat} {c : Host.Cell} (h : c ∈ romCells i bytes) :
    i ≤ c.1 ∧ c.1 < i + bytes.length := by
  induction bytes generalizing i with
  | nil => cases h
  | cons v bytes ih =>
    have htail (hc : c ∈ romCells (i + 1) bytes) : i ≤ c.1 ∧ c.1 < i + (v :: bytes).length := by
      have := ih hc
      simp only [List.length_cons]
      omega
    rw [romCells] at h
    split at h
    · exact htail h
    · rcases List.mem_cons.1 h with rfl | h
      · simp
      · exact htail h

theorem romCells_wf (i : Nat) (bytes : List Byte) : Memory.wf (romCells i bytes) := by
  induction bytes generalizing i with
  | nil => exact Memory.wf_nil
  | cons v bytes ih =>
    rw [romCells]
    split
    next => exact ih (i + 1)
    next hv =>
      refine ⟨List.pairwise_cons.2 ⟨fun c hc => (mem_romCells hc).1, (ih (i + 1)).1⟩, fun c hc => ?_⟩
      rcases List.mem_cons.1 hc with rfl | hc
      · exact hv
      · exact (ih (i + 1)).2 c hc

/-- An image's byte is read at its address, a zero byte as an unlisted one. -/
theorem read_romCells {bytes : List Byte} (i : Nat) {k : Nat} (hk : k < bytes.length) :
    (romCells i bytes).read (i + k) = bytes[k] := by
  induction bytes generalizing i k with
  | nil => cases hk
  | cons v bytes ih =>
    cases k with
    | zero =>
      have htail : (romCells (i + 1) bytes).read i = Memory.unlisted :=
        Memory.read_of_lt fun c hc => (mem_romCells hc).1
      rw [romCells]
      split
      next hv => exact htail.trans hv.symm
      next => simp [Memory.read]
    | succ k =>
      have hk' : k < bytes.length := Nat.lt_of_succ_lt_succ hk
      have htail : (romCells (i + 1) bytes).read (i + (k + 1)) = bytes[k] := by
        rw [Nat.add_comm k 1, ← Nat.add_assoc]
        exact ih (i + 1) hk'
      rw [romCells]
      split
      · exact htail
      · rw [Memory.read, if_neg (by omega)]
        exact htail

/-! ### The load -/

/-- The stores after a load: the image's cells, and the listed bytes that are not ROM's. -/
def loadedMemory (bytes : List Byte) (m : Memory) : Memory :=
  romCells 0 bytes ++ m.filter fun c => decide (0x8000 ≤ c.1)

theorem loadRom_legal {bytes : List Byte} (h : 384 ≤ bytes.length ∧ bytes.length ≤ 32768) (s : State) :
    s.loadRom (some bytes) =
      { s with
        mem := loadedMemory bytes s.mem
        romLen := bytes.length
        cartridge := .loaded
        diags := cartridgeDiag bytes :: s.diags } :=
  if_pos h

theorem loadRom_illegal {bytes : List Byte} (h : ¬ (384 ≤ bytes.length ∧ bytes.length ≤ 32768)) (s : State) :
    s.loadRom (some bytes) = { s with cartridge := .loadFailed } :=
  if_neg h

theorem step_of_loadFailed {s : State} (h : s.cartridge = .loadFailed) : step s = .refused .cartridgeLoadFailed := by
  simp [step, h]

theorem le_of_mem_ram {m : Memory} {c : Host.Cell} (h : c ∈ m.filter fun c => decide (0x8000 ≤ c.1)) :
    0x8000 ≤ c.1 :=
  of_decide_eq_true (List.mem_filter.1 h).2

theorem mem_romCells_zero_lt {bytes : List Byte} {c : Host.Cell} (h : c ∈ romCells 0 bytes) : c.1 < bytes.length := by
  simpa using (mem_romCells h).2

theorem read_loadedMemory_rom {bytes : List Byte} (hlen : bytes.length ≤ 0x8000) (m : Memory) {k : Nat}
    (hk : k < bytes.length) : (loadedMemory bytes m).read k = bytes[k] := by
  have hram : ∀ c ∈ m.filter (fun c => decide (0x8000 ≤ c.1)), k < c.1 :=
    fun c hc => (hk.trans_le hlen).trans_le (le_of_mem_ram hc)
  have hbyte : (romCells 0 bytes).read k = bytes[k] := by
    simpa using read_romCells 0 hk
  exact (Memory.read_append_left hram).trans hbyte

theorem read_loadedMemory_ram {bytes : List Byte} (hlen : bytes.length ≤ 0x8000) (m : Memory) {k : Nat}
    (hk : 0x8000 ≤ k) : (loadedMemory bytes m).read k = m.read k := by
  have hrom : ∀ c ∈ romCells 0 bytes, c.1 ≠ k := fun c hc =>
    Nat.ne_of_lt ((mem_romCells_zero_lt hc).trans_le (hlen.trans hk))
  calc (loadedMemory bytes m).read k
      = Memory.read (m.filter fun c => decide (0x8000 ≤ c.1)) k := Memory.read_append_right hrom
    _ = m.read k := Memory.read_filter (p := fun k => decide (0x8000 ≤ k)) (decide_eq_true hk)

/-- Settles O22: a load of legal length by its fields; any other marks the machine, which `step` then refuses first. -/
theorem loadRomSucceedsOrTheCoreNeverSteps : Obligations.LoadRomSucceedsOrTheCoreNeverSteps := by
  refine ⟨fun s bytes hlo hhi => ?_, fun s bytes hlen => ?_, fun s => step_of_loadFailed rfl, rfl⟩
  · rw [loadRom_legal ⟨hlo, hhi⟩]
    exact ⟨rfl, fun k hk => read_loadedMemory_rom hhi s.mem hk, fun k hk => read_loadedMemory_ram hhi s.mem hk, rfl, rfl⟩
  · rw [loadRom_illegal (by omega)]
    exact step_of_loadFailed rfl

/-! ### The invariant -/

theorem homeAddress_of_rom {romLen k : Nat} (hk : k < romLen) (hlen : romLen ≤ 0x8000) : homeAddress romLen k = true := by
  simp [homeAddress, hk, hk.trans_le hlen]

/-- Above the ROM the homes do not depend on the image. -/
theorem homeAddress_of_ram {k : Nat} (hk : 0x8000 ≤ k) (romLen romLen' : Nat) :
    homeAddress romLen k = homeAddress romLen' k := by
  simp [homeAddress, Nat.not_lt.2 hk]

theorem memoryGood_loadedMemory {s t : State} {bytes : List Byte} (g : s.MemoryGood) (hlen : bytes.length ≤ 0x8000)
    (hm : t.mem = loadedMemory bytes s.mem) (hr : t.romLen = bytes.length) : t.MemoryGood := by
  unfold State.MemoryGood
  rw [hm, hr]
  refine ⟨Memory.wf_append (romCells_wf 0 bytes) (Memory.wf_filter g.1 _) fun x hx y hy => ?_, fun c hc => ?_⟩
  · exact (mem_romCells_zero_lt hx).trans_le (hlen.trans (le_of_mem_ram hy))
  · rcases List.mem_append.1 hc with hc | hc
    · exact homeAddress_of_rom (mem_romCells_zero_lt hc) hlen
    · rw [homeAddress_of_ram (le_of_mem_ram hc) _ s.romLen]
      exact g.2 c (List.mem_of_mem_filter hc)

/-- A failed load marks the machine, and of a machine without an image the invariant asks no length. -/
theorem good_loadFailed {s : State} (g : s.Good) : State.Good { s with cartridge := .loadFailed } :=
  ⟨g.memory, g.flags, g.scanline, g.ticks, fun h => nomatch h⟩

theorem loadRom_good {s : State} (g : s.Good) (image : Option (List Byte)) : (s.loadRom image).Good := by
  cases image with
  | none => exact good_loadFailed g
  | some bytes =>
    by_cases h : 384 ≤ bytes.length ∧ bytes.length ≤ 32768
    · rw [loadRom_legal h]
      exact ⟨memoryGood_loadedMemory g.memory h.2 rfl rfl, g.flags, g.scanline, g.ticks, fun _ => h⟩
    · rw [loadRom_illegal h]
      exact good_loadFailed g

/-- The reset action keeps the ROM's cells and the load status; the rest is as in the state of reset. -/
theorem resetAction_good {s : State} (g : s.Good) : s.resetAction.Good where
  memory := ⟨Memory.wf_filter g.memory.1 _, fun c hc => g.memory.2 c (List.mem_of_mem_filter hc)⟩
  flags := resetStateIsGood.flags
  scanline := resetStateIsGood.scanline
  ticks := resetStateIsGood.ticks
  rom := g.rom

theorem wireJoypad_good {s : State} (g : s.Good) (wired : Bool) : (s.wireJoypad wired).Good :=
  ⟨g.memory, g.flags, g.scanline, g.ticks, g.rom⟩

/-- Settles O31: action by action; waking writes the latch only, which no part of the invariant reads. -/
theorem hostActionsKeepGood : Obligations.HostActionsKeepGood := by
  intro s image wired g
  exact ⟨loadRom_good g image, resetAction_good g, (kept_setStopped s false).good g, wireJoypad_good g wired⟩

end Sys2Proof.Machine
end

section
/-! Reset (70_reset_and_hazards.md R420, R421): the elements of reset's record and the empty RAM of both states that follow a
reset, and the ROM that the action keeps. -/

namespace Sys2Proof.Machine

/-! ### The stores after reset -/

theorem Memory.read_of_unlisted {m : Memory} {k : Nat} (h : ∀ x ∈ m, x.1 ≠ k) : m.read k = Memory.unlisted := by
  simpa using Memory.read_append_right (m' := []) h

/-- The reset action keeps the ROM's cells (92 D43). -/
theorem resetAction_read_rom (s : State) {k : Nat} (hk : k < 0x8000) : s.resetAction.mem.read k = s.mem.read k :=
  Memory.read_filter (p := fun k => decide (k < 0x8000)) (decide_eq_true hk)

/-- The reset action drops every cell above the ROM. -/
theorem resetAction_read_ram (s : State) {k : Nat} (hk : 0x8000 ≤ k) :
    s.resetAction.mem.read k = Memory.unlisted := by
  refine Memory.read_of_unlisted fun c hc => ?_
  have hrom : c.1 < 0x8000 := of_decide_eq_true (List.mem_filter.1 hc).2
  exact Nat.ne_of_lt (hrom.trans_le hk)

/-! ### The state after reset -/

/-- Only the stores and what is the host's own may differ from the reset record. -/
theorem afterReset_eq {s t : State} (h : t ∈ [s.resetAction, State.reset]) :
    t = { State.reset with
      mem := t.mem
      cartridge := t.cartridge
      romLen := t.romLen
      params := t.params
      joypadWired := t.joypadWired
      draws := t.draws
      diags := t.diags } := by
  rcases List.mem_pair.1 h with rfl | rfl <;> rfl

theorem afterReset_read_ram {s t : State} (h : t ∈ [s.resetAction, State.reset]) {k : Nat} (hk : 0x8000 ≤ k) :
    t.mem.read k = 0x00 := by
  rcases List.mem_pair.1 h with rfl | rfl
  · exact resetAction_read_ram s hk
  · exact Memory.read_nil k

/-- The bus shows an empty RAM byte at each address whose home is in RAM, the echo's included. -/
theorem afterReset_readByte_ram {s t : State} (h : t ∈ [s.resetAction, State.reset]) {a : Word} {k : Nat}
    (ha : busTarget a = .ram k) : t.readByte a = 0x00 := by
  have hk : 0x8000 ≤ k := by
    rcases busTarget_ram_home ha with hk | hk | hk <;> omega
  rw [readByte_ram ha]
  exact afterReset_read_ram h hk

theorem reset_io (k : Fin 256) : State.reset.io[k] = Config.ioReset k := by
  simp [State.reset]

/-- Settles O8: the registers by the reset record, the RAM bytes by their homes, the ROM by the cells the action keeps. -/
theorem resetLeavesTheStatedValues : Obligations.ResetLeavesTheStatedValues := by
  intro s t h
  have ht := afterReset_eq h
  refine ⟨congrArg State.regs ht, congrArg State.ticks ht, congrArg State.stopped ht, congrArg State.run ht,
    congrArg State.intr ht, congrArg State.ppu ht, fun a hlo hhi => ?ram, fun a hlo hhi => ?hram,
    afterReset_read_ram h (by decide), fun k => ?io, ?rom⟩
  case ram =>
    by_cases hecho : 0xE000 ≤ a.toNat ∧ a.toNat < 0xFE00
    · exact afterReset_readByte_ram h (busTarget_echo hecho)
    · exact afterReset_readByte_ram h (busTarget_ram (by omega))
  case hram => exact afterReset_readByte_ram h (busTarget_ram (by omega))
  case io =>
    have hio : t.io = State.reset.io := (congrArg State.io ht :)
    rw [hio, reset_io]
  case rom =>
    rintro rfl
    exact ⟨rfl, fun k hk => resetAction_read_rom s hk⟩

end Sys2Proof.Machine
end
